-- ==== Sys2Proof/Word.lean ====
section
/-! DEFINITION. The plain words of the Zolric 2260 link, and the shape in which numbered records are kept. -/

namespace Sys2Proof

/-- One byte as the SPI port carries it (section 6 of the introduction). -/
abbrev Byte := BitVec 8

/-- The 16-bit tag a request frame carries and its answer echoes (R187, R190). -/
abbrev Tag := BitVec 16

/-- A collection of records known by number (card slots, merchant indexes, schedule numbers, watch entries):
pairs of a number and its record. The canonical form is numbers strictly rising, and no pair whose record
is what an unlisted number reads as; `Machine.tableWf` states the first half. -/
abbrev Table (α : Type) := List (Nat × α)

end Sys2Proof
end

