-- ==== Sys2Proof/Syntax.lean ====
section
/-! DEFINITION. The commands the part takes: one constructor for each row of spec/opcode_table.json.

A row that serves a request carries no operand of its own: the request's fields stand in the frame that a PUT
handed in, and the row is the Request Engine's service of that frame (R187). A link transaction carries the
bytes clocked after its code byte. -/

namespace Sys2Proof

/-- Which reset a DEVICE_RESET is (R193): at power-on, or RESET_N low afterwards. -/
inductive ResetKind where
  | powerOn
  | resetLine
  deriving DecidableEq, Repr

/-- The commands and events of the part, in the table's order. -/
inductive Instr where
  /-- PUT: the bytes the host clocks after the code byte, up to the rise of CS_N (R185). -/
  | put (bytes : List Byte)
  /-- TAKE: how many bytes the host clocks after the code byte before CS_N rises (R188). -/
  | take (clocked : Nat)
  /-- LINK_RESET: the bytes clocked after the code byte, which are ignored (R185, R189). -/
  | linkReset (ignored : List Byte)
  /-- TRANSACTION_CODE_UNKNOWN: a code byte that is not 1, 2 or 3, and the bytes after it (R185). -/
  | transactionCodeUnknown (code : Byte) (rest : List Byte)
  | unknownRequestKind
  | issue
  | load
  | inquire
  | suspend
  | resume
  | close
  | replace
  | watchSetWrite
  | watchSetClear
  | watchSetList
  | authorize
  | capture
  | release
  | sale
  | basketOpen
  | basketCapture
  | basketRelease
  | refund
  | terminalClear
  | merchantSet
  | merchantRemove
  | merchantRead
  | closedRead
  | scheduleStageWrite
  | scheduleStageClear
  | scheduleRead
  | periodCut
  | periodStatus
  | periodRelease
  | payoutStart
  | payoutRead
  | payoutAbort
  | walkersHold
  | walkersResume
  | setClock
  | routeSet
  | sweepStart
  | status
  | statusClear
  | config
  | configRead
  | format
  | cutNEdge
  | timerefEdge
  | dividerSecond
  | clockFallback
  | minuteTick
  | holdLapse
  | basketLapse
  | dayRoll
  | periodCounterExpiry
  | lapseWork
  | emptyBasketLapse
  | cut
  | walkUnit
  | trailerAppend
  | sweepUnit
  /-- DEVICE_RESET: which reset it is, and whether the store header reads back whole at the mount that
  follows (a header that cannot be read or fails its integrity check is invalid, R180). -/
  | deviceReset (kind : ResetKind) (headerReads : Bool)
  | mountComplete
  | powerGoodFall
  | park
  | powerGoodRise
  deriving DecidableEq, Repr

end Sys2Proof
end

