-- ==== Sys2Proof/Decode.lean ====
section
/-! DEFINITION. From bits and bytes to commands. No row of spec/opcode_table.json gives bits ("fields" is empty in every row),
so no word spells a command. What the host clocks on the link does spell one: the first byte of a transaction is its code
(R185). The frames inside PUT and TAKE (R190) are decoded in Sys2Proof/Machine/Links.lean and Operands.lean. -/

namespace Sys2Proof

/-- No row of the table gives bits, so there is no command to read from a word. -/
def decodeTableWord (_nbits _w : Nat) : Option Instr := none

/-! ### Link transactions (R185) -/

/-- The transaction code of PUT (R185). -/
def codePut : Byte := 1#8
/-- The transaction code of TAKE (R185). -/
def codeTake : Byte := 2#8
/-- The transaction code of LINK_RESET (R185). -/
def codeLinkReset : Byte := 3#8

/-- A transaction code that names PUT, TAKE or LINK_RESET (R185). -/
def codeKnown (code : Byte) : Bool := code == codePut || code == codeTake || code == codeLinkReset

/-- The command that a link transaction is, from the bytes the host clocks while CS_N is low: the first is the transaction
code. A transaction in which CS_N rises before any byte is clocked is none (R185). In a TAKE the host's further bytes only
clock the answer out, so their number alone counts (R188). -/
def transactionOf : List Byte → Option Instr
  | [] => none
  | code :: rest => some
    (if code = codePut then .put rest
    else if code = codeTake then .take rest.length
    else if code = codeLinkReset then .linkReset rest
    else .transactionCodeUnknown code rest)

end Sys2Proof
end

