-- ==== Sys2Proof/Config.lean ====
section
/-! DEFINITION. What the part fixes once and for all: the capacities and bounds of sections 3 and 4 of the
introduction and of the rules named at each constant, and the one value the spec leaves open. -/

namespace Sys2Proof.Config

/-- Card slots of the Card Table (R1). -/
abbrev cardSlots : Nat := 131072
/-- Value lots a card may hold (R8). -/
abbrev lotsPerCard : Nat := 6
/-- Open and lapsing holds a card may carry (R15, R53). -/
abbrev holdsPerCard : Nat := 8
/-- Hold entries of the Hold Table (R48). -/
abbrev holdEntries : Nat := 8192
/-- Basket entries of the Hold Table (R74). -/
abbrev basketEntries : Nat := 1024
/-- Members of one basket (R74, R79). -/
abbrev basketMembers : Nat := 4
/-- Merchant records (R91); the indexes are 0 to 511. -/
abbrev merchants : Nat := 512
/-- Fee schedules (R109); the numbers are 0 to 7. -/
abbrev schedules : Nat := 8
/-- Watch entries (R43); the numbers are 0 to 7. -/
abbrev watchEntries : Nat := 8
/-- Request frames the intake queue holds (R186). -/
abbrev intakePlaces : Nat := 16
/-- Answer frames the answer queue holds (R187). -/
abbrev answerPlaces : Nat := 16
/-- Records the payout queue holds (R149). -/
abbrev payoutPlaces : Nat := 32
/-- Entries one PAYOUT_READ removes at most (R150). -/
abbrev payoutReadMost : Nat := 4

/-- Largest card number of 16 decimal digits (R4). -/
abbrev cardNumberMax : Nat := 9999999999999999
/-- Largest amount of a card request, and largest card value (R11, R27, R52). -/
abbrev amountMax : Nat := 1000000
/-- Largest amount of BASKET_CAPTURE (R83). -/
abbrev basketAmountMax : Nat := 4000000
/-- Largest refund allowance (R91). -/
abbrev allowanceMax : Nat := 1000000
/-- Largest minutes a hold or basket runs (R56). -/
abbrev minutesMax : Nat := 1440
/-- Last serial number of a hold or basket (R50, R76). -/
abbrev serialMax : Nat := 4294967295
/-- Last period number (R125). -/
abbrev periodMax : Nat := 65535
/-- Last business day (R158). -/
abbrev dayMax : Nat := 65535
/-- Days ahead a promotional expiry may lie (R27). -/
abbrev promoDaysAhead : Nat := 3650
/-- Seconds of one circuit of the second of day (R157). -/
abbrev secondsPerDay : Nat := 86400
/-- Largest 48-bit sum (R101, R105). -/
abbrev sum48Max : Nat := 281474976710655
/-- Largest FEE_UNITS (R101, R105). -/
abbrev feeUnitsMax : Nat := 18446744073709551615
/-- Largest threshold and largest cap of a schedule (R109). -/
abbrev thresholdMax : Nat := 140737488355328
/-- Largest rate, in basis points (R109). -/
abbrev rateMax : Nat := 1000
/-- Largest fixed fee, in cents (R109). -/
abbrev fixedFeeMax : Nat := 500
/-- Least length field of a PUT (R185). -/
abbrev frameLengthMin : Nat := 3
/-- Greatest length field of a PUT (R185). -/
abbrev frameLengthMax : Nat := 253

/-- FREE VALUE (log entry 11): what a 4-byte cents field of an answer carries for a sum that does not fit it. Only
TERMINAL_CLEAR can meet one: it may return the cents of up to 8,192 holds (R48, R89), and R190 gives its sums 4
bytes. Nothing constrains this function. -/
opaque centsTooWide : Nat → BitVec 32

end Sys2Proof.Config
end

