-- ==== Sys2Proof/Machine/State.lean ====
section
/-! DEFINITION. Everything the Zolric 2260 keeps, as plain data, and the machine right after power-on.
Each structure names the rule of spec/ that gives its fields. Numbers are Nat: the ranges the spec gives are
kept by the operations and stated as an invariant in Sys2Proof/Safety.lean. -/

namespace Sys2Proof.Machine

/-! ### Cards (chapter 1) -/

/-- A card's life cycle (R13). -/
inductive CardState where
  | active
  | suspended
  | closing
  deriving DecidableEq, Repr

/-- The kind of a value lot (R5). -/
inductive LotKind where
  | paid
  | promo
  deriving DecidableEq, Repr

/-- The key of a lot: kind, sponsor (absent for PAID), expiry day (absent when the value does not expire) (R6). -/
structure LotKey where
  kind : LotKind
  sponsor : Option Nat
  expiry : Option Nat
  deriving DecidableEq, Repr

/-- A value lot (R5). -/
structure Lot where
  key : LotKey
  available : Nat
  held : Nat
  deriving DecidableEq, Repr

/-- A card record (R1); the slot is its number in the table. -/
structure Card where
  number : Nat
  state : CardState
  lots : List Lot
  openHolds : Nat
  lastActivity : Nat
  deriving DecidableEq, Repr

/-- The Card Table: occupied slots by slot number, the directory from card number to slot (R3), and the two
value totals (R19). All of it is stored. -/
structure CardTable where
  slots : Table Card
  directory : Table Nat
  paidOutstanding : Nat
  promoOutstanding : Nat
  deriving DecidableEq, Repr

/-- What a watch entry asks for (R43). -/
inductive WatchAction where
  | notify
  | decline
  deriving DecidableEq, Repr

/-- An occupied watch entry (R43). -/
structure WatchEntry where
  number : Nat
  action : WatchAction
  deriving DecidableEq, Repr

/-! ### Holds and baskets (chapters 3 and 4) -/

/-- The states a hold or basket entry that is not FREE can be in (R48, R74). -/
inductive HoldState where
  /-- OPEN -/
  | opened
  /-- LAPSING -/
  | lapsing
  deriving DecidableEq, Repr

/-- A reservation part: lot key and cents (R48). -/
structure Part where
  key : LotKey
  cents : Nat
  deriving DecidableEq, Repr

/-- A hold entry that is not FREE (R48). -/
structure Hold where
  number : Nat
  state : HoldState
  slot : Nat
  merchant : Nat
  terminal : Nat
  amount : Nat
  parts : List Part
  minutes : Option Nat
  basket : Option Nat
  deriving DecidableEq, Repr

/-- A basket entry that is not FREE (R74). -/
structure Basket where
  number : Nat
  state : HoldState
  merchant : Nat
  terminal : Nat
  members : List Nat
  minutes : Nat
  deriving DecidableEq, Repr

/-- An item of the lapse list: a LAPSING hold, or a lapsing basket without members (R69, R80). -/
inductive LapseItem where
  | hold (number : Nat)
  | basket (number : Nat)
  deriving DecidableEq, Repr

/-- The Hold Table (volatile): the entries that are not FREE, in the order their numbers were assigned, the two
serial counters (R50, R76), the lapse list (R69), and the minute ticks handed on by the Business Clock and
not yet taken (R66). -/
structure HoldTable where
  holds : List Hold
  holdSerial : Nat
  baskets : List Basket
  basketSerial : Nat
  lapse : List LapseItem
  ticksDue : Nat
  deriving DecidableEq, Repr

/-! ### Merchants and fees (chapters 5 and 6) -/

/-- A merchant's state (R91). -/
inductive MerchantState where
  | unlisted
  | active
  | suspended
  deriving DecidableEq, Repr

/-- The eight sums of an open position (R101). -/
structure Position where
  sold : Nat
  redeemed : Nat
  refunded : Nat
  sponsorCost : Nat
  promoLapsed : Nat
  breakage : Nat
  feeUnits : Nat
  captureCount : Nat
  deriving DecidableEq, Repr

/-- A position at its start (R101). -/
def Position.zero : Position := ⟨0, 0, 0, 0, 0, 0, 0, 0⟩

/-- A merchant record (R91). -/
structure Merchant where
  state : MerchantState
  schedule : Nat
  nextSchedule : Option Nat
  allowance : Nat
  payoutRef : Nat
  openHolds : Nat
  sponsored : Nat
  position : Position
  deriving DecidableEq, Repr

/-- The record of an index not in use; an index without an entry in the table reads as this (R91). -/
def Merchant.unlisted : Merchant := ⟨.unlisted, 0, none, 0, 0, 0, 0, Position.zero⟩

/-- The operator's record after FORMAT (R106). -/
def Merchant.operator : Merchant := { Merchant.unlisted with state := .active }

/-- One copy of a fee schedule (R109). -/
structure Schedule where
  fixedFee : Nat
  t1 : Nat
  t2 : Nat
  t3 : Nat
  r0 : Nat
  r1 : Nat
  r2 : Nat
  r3 : Nat
  cap : Nat
  deriving DecidableEq, Repr

/-- A copy after FORMAT (R110). -/
def Schedule.zero : Schedule := ⟨0, 0, 0, 0, 0, 0, 0, 0, 0⟩

/-- A fee schedule: its active copy and its staged copy, if present (R109). -/
structure ScheduleEntry where
  active : Schedule
  staged : Option Schedule
  deriving DecidableEq, Repr

/-- A schedule after FORMAT; a number without an entry in the table reads as this (R110). -/
def ScheduleEntry.blank : ScheduleEntry := ⟨Schedule.zero, none⟩

/-! ### Periods and payout runs (chapters 7 and 8) -/

/-- A closed position (R133). -/
structure ClosedPosition where
  position : Position
  fee : Nat
  feeIncome : Nat
  net : Int
  schedule : Nat
  payoutRef : Nat
  listed : Bool
  deriving DecidableEq, Repr

/-- The closed position of an index that was UNLISTED at the cut; an index without an entry in the snapshot
reads as this (R133). -/
def ClosedPosition.blank : ClosedPosition := ⟨Position.zero, 0, 0, 0, 0, 0, false⟩

/-- The snapshot's state (R133, R134). -/
inductive SnapshotState where
  | empty
  | closed
  | paying
  | paid
  deriving DecidableEq, Repr

/-- The closed snapshot (R133). While EMPTY it holds no period: every other field is at its blank value. -/
structure Snapshot where
  state : SnapshotState
  period : Nat
  openDay : Nat
  cutDay : Nat
  previousPaid : Nat
  thisPaid : Nat
  thisPromo : Nat
  closed : Table ClosedPosition
  deriving DecidableEq, Repr

/-- An EMPTY snapshot. -/
def Snapshot.blank : Snapshot := ⟨.empty, 0, 0, 0, 0, 0, 0, []⟩

/-- The period counter's state (R127). -/
inductive CounterState where
  | running
  | expired
  | stopped
  deriving DecidableEq, Repr

/-- The cut-pending flag (R129). -/
inductive CutPending where
  | none
  | waiting
  | deferred
  deriving DecidableEq, Repr

/-- The Period Controller: the open period record (stored), the cut-pending flag (volatile) and the closed
snapshot (stored) (R125). -/
structure Period where
  number : Nat
  openDay : Nat
  openingPaid : Nat
  counterValue : Nat
  counterState : CounterState
  cutPending : CutPending
  snapshot : Snapshot
  deriving DecidableEq, Repr

/-- The Payout Walker's run state (R141). -/
inductive RunState where
  | idle
  | walking
  | stalled
  | draining
  deriving DecidableEq, Repr

/-- How a walker holds the store between its units (R147, R168). -/
inductive WalkMode where
  | interleaved
  | burst
  deriving DecidableEq, Repr

/-- The direction of a payout record (R146). -/
inductive Direction where
  | credit
  | debit
  | nil
  deriving DecidableEq, Repr

/-- A payout record (R146). -/
structure PayoutRecord where
  sequence : Nat
  merchant : Nat
  payoutRef : Nat
  direction : Direction
  magnitude : Nat
  fee : Nat
  redeemed : Nat
  refunded : Nat
  sold : Nat
  sponsorCost : Nat
  breakage : Nat
  feeIncome : Nat
  captureCount : Nat
  deriving DecidableEq, Repr

/-- The trailer of a run (R148). -/
structure Trailer where
  period : Nat
  recordCount : Nat
  credit : Nat
  debit : Nat
  net : Int
  previousPaid : Nat
  thisPaid : Nat
  deriving DecidableEq, Repr

/-- An entry of the payout queue (R149). -/
inductive PayoutEntry where
  | record (r : PayoutRecord)
  | trailer (t : Trailer)
  deriving DecidableEq, Repr

/-- The Payout Walker's run record (R141). -/
structure Run where
  state : RunState
  position : Nat
  mode : WalkMode
  period : Nat
  previousPaid : Nat
  thisPaid : Nat
  recordCount : Nat
  credit : Nat
  debit : Nat
  net : Int
  deriving DecidableEq, Repr

/-- The run record of an IDLE walker: every field 0 (R141). -/
def Run.idle : Run := ⟨.idle, 0, .interleaved, 0, 0, 0, 0, 0, 0, 0⟩

/-- The Payout Walker (volatile): run record, payout queue, and the walkers' hold flag kept beside it (R141,
R149, R153). -/
structure Payout where
  run : Run
  queue : List PayoutEntry
  holdFlag : Bool
  deriving DecidableEq, Repr

/-! ### Sweep, clock and routes (chapter 9) -/

/-- The Expiry Sweep's pass state (R165). -/
inductive PassState where
  | idle
  | sweeping
  deriving DecidableEq, Repr

/-- The Expiry Sweep's pass record (volatile) (R165). -/
structure Sweep where
  pass : PassState
  position : Nat
  passPending : Bool
  mode : WalkMode
  block : Nat
  deriving DecidableEq, Repr

/-- What advances the second of day (R156). -/
inductive ClockSource where
  | external
  | fallback
  | internal
  deriving DecidableEq, Repr

/-- The Business Clock (volatile) (R156), with the day roll that an advance has made due and that has not been
taken yet (R157, R158). -/
structure Clock where
  day : Nat
  second : Nat
  isSet : Bool
  source : ClockSource
  divider : Nat
  rollDue : Bool
  deriving DecidableEq, Repr

/-- The sources of the Event Router (R162). -/
inductive EventSource where
  | dayRoll
  | cutTaken
  | cutDeferred
  | payoutDone
  | sweepDone
  deriving DecidableEq, Repr

/-- The destinations of the Event Router (R162). -/
inductive Destination where
  | none
  | attention
  | sweepStart
  | payoutStart
  deriving DecidableEq, Repr

/-- The route table: one destination for each source (R162). -/
structure Routes where
  dayRoll : Destination
  cutTaken : Destination
  cutDeferred : Destination
  payoutDone : Destination
  sweepDone : Destination
  deriving DecidableEq, Repr

/-- The default routes (R162). -/
def Routes.default : Routes := ⟨.sweepStart, .attention, .attention, .attention, .none⟩

/-! ### Record store, arbiter, requests (chapters 10 and 11) -/

/-- The store state (R173). -/
inductive StoreState where
  | mounting
  | unformatted
  | ready
  | parked
  deriving DecidableEq, Repr

/-- How far the mount has come through the steps of R180: the step it works on next, and within the walk of
the card slots the lowest slot not yet walked. -/
inductive MountStage where
  | settings
  | cards (next : Nat)
  | totals
  | merchants
  | snapshot
  | finished
  deriving DecidableEq, Repr

/-- The Record Store Controller (R173, R180, R183): the store state; whether a fall of POWER_GOOD waits for the
unit holding the store; whether the stored header is valid (stored, written by FORMAT); how far a mount has
come; whether the stored settings have been read since the device reset; and the level of the POWER_GOOD
input. -/
structure Store where
  state : StoreState
  parking : Bool
  headerValid : Bool
  mount : MountStage
  settingsRead : Bool
  powerGood : Bool
  deriving DecidableEq, Repr

/-- The arbiter's claimants, in rotation order (R176). -/
inductive Claimant where
  | requestEngine
  | lapseWork
  | periodController
  | payoutWalker
  | expirySweep
  deriving DecidableEq, Repr

/-- The arbiter: the current holder, or none, and the last holder (R176). -/
structure Arbiter where
  holder : Option Claimant
  lastHolder : Claimant
  deriving DecidableEq, Repr

/-- A request frame as it stands in the intake queue: kind, tag and body (R190). -/
structure Frame where
  kind : Byte
  tag : Tag
  body : List Byte
  deriving DecidableEq, Repr

/-- The Request Engine: the frame it has taken under a grant and not yet completed, and whether LINK_RESET asked
for that request's answer to be discarded (R187, R189). -/
structure Engine where
  current : Option Frame
  discard : Bool
  deriving DecidableEq, Repr

/-- The cause of the last device reset, as STATUS has not yet reported it (R193). -/
inductive ResetCause where
  | powerOn
  | resetLine
  | none
  deriving DecidableEq, Repr

/-- The thirteen status conditions, in the order of their bits (R191). -/
inductive Condition where
  | answerReady
  | payoutRecords
  | intakeOverrun
  | linkError
  | cutTaken
  | cutDeferred
  | payoutDone
  | sweepDone
  | dayRoll
  | watchHit
  | clockFallback
  | saturated
  | storeReady
  deriving DecidableEq, Repr

/-- The Command Link (volatile): the two queues (R186, R187; an answer is its whole frame's bytes), the latched
conditions as a condition set (R190, R191; the two level conditions are computed), the WATCH_HIT entry set
(R45), the reset cause (R193), and the bytes driven on SDO in the last TAKE (R188). -/
structure Link where
  intake : List Frame
  answers : List (List Byte)
  latched : BitVec 16
  watchHits : BitVec 8
  resetCause : ResetCause
  sdo : List Byte
  deriving DecidableEq, Repr

/-- The configuration settings, in the table's order (R195). -/
structure Settings where
  holdMinutes : Nat
  cardLimit : Nat
  paidExpiryDays : Nat
  dormantDays : Nat
  periodDays : Nat
  /-- CUT_LINE is ON. -/
  cutLine : Bool
  rollSecond : Nat
  /-- CLOCK_SOURCE is INTERNAL (else TIMEREF). -/
  clockInternal : Bool
  payoutMode : WalkMode
  sweepMode : WalkMode
  sweepBlock : Nat
  attentionMask : BitVec 16
  deriving DecidableEq, Repr

/-- The defaults of section 4 of the introduction. -/
def Settings.default : Settings :=
  ⟨30, 50000, 0, 730, 1, false, 14400, false, .interleaved, .interleaved, 16, 0#16⟩

/-- The whole part. -/
structure State where
  link : Link
  engine : Engine
  arbiter : Arbiter
  store : Store
  cards : CardTable
  watch : Table WatchEntry
  hold : HoldTable
  merchants : Table Merchant
  schedules : Table ScheduleEntry
  period : Period
  payout : Payout
  sweep : Sweep
  clock : Clock
  /-- The Event Router's working copy (R162). -/
  routes : Routes
  /-- The stored route table (R162). -/
  storedRoutes : Routes
  /-- The stored settings (R195). -/
  settings : Settings
  /-- The commands that wait, first in, first out: the model's own field. -/
  pending : List Instr
  deriving DecidableEq, Repr

/-- The part stops with a fault: the spec describes no event that stops it, so there is no constructor. Safe. -/
inductive Fault where
  deriving DecidableEq, Repr

/-- A command has no meaning. -/
inductive Refusal where
  /-- Raised by an arm of `exec` whose command has no meaning in the model yet; no arm of this model raises it.
  Safe: a refused command proves nothing. -/
  | notModelled (mnemonic : String)
  deriving DecidableEq, Repr

/-- The part right after power-on with POWER_GOOD high (R179), over a record memory without a valid header, so
that the store is UNFORMATTED (R173, R180). The stored records, which R173 to R182 do not describe before the
first FORMAT, are given their values after FORMAT (DESIGN CHOICE, log entry 1). -/
def State.reset : State where
  link := ⟨[], [], 0#16, 0#8, .powerOn, []⟩
  engine := ⟨none, false⟩
  arbiter := ⟨none, .expirySweep⟩
  store := ⟨.unformatted, false, false, .settings, false, true⟩
  cards := ⟨[], [], 0, 0⟩
  watch := []
  hold := ⟨[], 1, [], 1, [], 0⟩
  merchants := [(0, Merchant.operator)]
  schedules := []
  period := ⟨1, 0, 0, 1, .running, .none, Snapshot.blank⟩
  payout := ⟨Run.idle, [], false⟩
  sweep := ⟨.idle, 0, false, .interleaved, 16⟩
  clock := ⟨0, 0, false, .external, 0, false⟩
  routes := Routes.default
  storedRoutes := Routes.default
  settings := Settings.default
  pending := []

end Sys2Proof.Machine
end

