-- ==== Sys2Proof/Machine/Tables.lean ====
section
/-! DEFINITION. Reading and writing numbered records: the one place where a `Table` is read or changed. -/

namespace Sys2Proof.Machine

/-- The record kept under number `i`, if there is one. -/
def tableFind {α : Type} : Table α → Nat → Option α
  | [], _ => none
  | (k, v) :: rest, i => if k = i then some v else tableFind rest i

/-- The table with record `v` under number `i`, in place of the one there before. -/
def tableInsert {α : Type} : Table α → Nat → α → Table α
  | [], i, v => [(i, v)]
  | (k, w) :: rest, i, v =>
    if i < k then (i, v) :: (k, w) :: rest
    else if i = k then (i, v) :: rest
    else (k, w) :: tableInsert rest i v

/-- The table without a record under number `i`. -/
def tableErase {α : Type} : Table α → Nat → Table α
  | [], _ => []
  | (k, w) :: rest, i => if k = i then rest else (k, w) :: tableErase rest i

/-- The canonical form: numbers strictly rising. -/
abbrev tableWf {α : Type} (t : Table α) : Prop := t.Pairwise (fun a b => a.1 < b.1)

/-- The record under `i` in a table whose unlisted numbers read as `d`. -/
def tableGet {α : Type} (d : α) (t : Table α) (i : Nat) : α := (tableFind t i).getD d

/-- Writing `v` under `i` in a table whose unlisted numbers read as `d`: writing `d` removes the entry. -/
def tableSet {α : Type} [DecidableEq α] (d : α) (t : Table α) (i : Nat) (v : α) : Table α :=
  if v = d then tableErase t i else tableInsert t i v

/-- The table with `f` applied to every record, entries that come to read as `d` removed. -/
def tableMap {α : Type} [DecidableEq α] (d : α) (f : Nat → α → α) (t : Table α) : Table α :=
  (t.map (fun e => (e.1, f e.1 e.2))).filter (fun e => e.2 ≠ d)

/-- The canonical form of a table with a default: rising, and no entry reads as the default. -/
abbrev tableWfD {α : Type} [DecidableEq α] (d : α) (t : Table α) : Prop :=
  tableWf t ∧ ∀ e ∈ t, e.2 ≠ d

/-- The lowest number from `k` upward that has no record, in a table of rising numbers. -/
def tableLowestFree {α : Type} : Table α → Nat → Nat
  | [], k => k
  | (i, _) :: rest, k => if i = k then tableLowestFree rest (k + 1) else tableLowestFree rest k

/-! ### Cards -/

/-- The card in a slot, if the slot is occupied (R1). -/
def State.cardAt (s : State) (slot : Nat) : Option Card := tableFind s.cards.slots slot

/-- Directory lookup of a card number, and the record in its slot (R3). -/
def State.lookup (s : State) (number : Nat) : Option (Nat × Card) :=
  match tableFind s.cards.directory number with
  | none => none
  | some slot => (s.cardAt slot).map (fun c => (slot, c))

/-- A card record written into its slot. -/
def State.putCard (s : State) (slot : Nat) (c : Card) : State :=
  { s with cards := { s.cards with slots := tableInsert s.cards.slots slot c } }

/-- A new card: record into its slot, number into the directory (Insert of R3). -/
def State.insertCard (s : State) (slot : Nat) (c : Card) : State :=
  { s with cards := { s.cards with
      slots := tableInsert s.cards.slots slot c
      directory := tableInsert s.cards.directory c.number slot } }

/-- Rename of R3: the old number leaves the directory and the record's number joins it against the same slot. -/
def State.renameCard (s : State) (slot old : Nat) (c : Card) : State :=
  { s with cards := { s.cards with
      slots := tableInsert s.cards.slots slot c
      directory := tableInsert (tableErase s.cards.directory old) c.number slot } }

/-- Retirement (R18): the number leaves the directory and the slot becomes free. -/
def State.retireCard (s : State) (slot number : Nat) : State :=
  { s with cards := { s.cards with
      slots := tableErase s.cards.slots slot
      directory := tableErase s.cards.directory number } }

/-! ### Merchants and schedules -/

/-- The record of a merchant index (R91). -/
def State.merchant (s : State) (i : Nat) : Merchant := tableGet Merchant.unlisted s.merchants i

/-- A merchant record written. -/
def State.setMerchant (s : State) (i : Nat) (m : Merchant) : State :=
  { s with merchants := tableSet Merchant.unlisted s.merchants i m }

/-- A merchant record changed by `f`. -/
def State.onMerchant (s : State) (i : Nat) (f : Merchant → Merchant) : State :=
  s.setMerchant i (f (s.merchant i))

/-- A fee schedule (R109). -/
def State.schedule (s : State) (n : Nat) : ScheduleEntry := tableGet ScheduleEntry.blank s.schedules n

/-- The staged copy of a schedule written, or withdrawn (R112). -/
def State.stageSchedule (s : State) (n : Nat) (copy : Option Schedule) : State :=
  { s with schedules := tableSet ScheduleEntry.blank s.schedules n { s.schedule n with staged := copy } }

/-- The closed position of an index (R133). -/
def Snapshot.closedAt (p : Snapshot) (i : Nat) : ClosedPosition := tableGet ClosedPosition.blank p.closed i

end Sys2Proof.Machine
end

