-- ==== Sys2Proof/Machine/Flags.lean ====
section
/-! DEFINITION. The status conditions (R191), the attention line (R192) and the settings in force. -/

namespace Sys2Proof.Machine

/-- The bit of a condition in a condition set (R190, R191). -/
def Condition.bit : Condition → Nat
  | .answerReady => 0
  | .payoutRecords => 1
  | .intakeOverrun => 2
  | .linkError => 3
  | .cutTaken => 4
  | .cutDeferred => 5
  | .payoutDone => 6
  | .sweepDone => 7
  | .dayRoll => 8
  | .watchHit => 9
  | .clockFallback => 10
  | .saturated => 11
  | .storeReady => 12

/-- The condition set that names one condition. -/
def Condition.set (c : Condition) : BitVec 16 := BitVec.ofNat 16 (2 ^ c.bit)

/-- A latched condition raised (R191): raising it again has no further effect. -/
def State.raise (s : State) (c : Condition) : State :=
  { s with link := { s.link with latched := s.link.latched ||| c.set } }

/-- A latched condition raised when `b` holds. -/
def State.raiseIf (s : State) (b : Bool) (c : Condition) : State := if b then s.raise c else s

/-- Latched conditions cleared (R194): those named in the set. -/
def State.clearConditions (s : State) (set : BitVec 16) : State :=
  { s with link := { s.link with
      latched := s.link.latched &&& ~~~set
      watchHits := if set.getLsbD Condition.watchHit.bit then 0#8 else s.link.watchHits } }

/-- The level conditions (R191): ANSWER_READY and PAYOUT_RECORDS follow their queues. -/
def State.levelConditions (s : State) : BitVec 16 :=
  (if s.link.answers.isEmpty then 0#16 else Condition.answerReady.set) |||
  (if s.payout.queue.isEmpty then 0#16 else Condition.payoutRecords.set)

/-- The condition set standing (R191, R193): the latched conditions, of bits 2 to 12, and the level conditions. -/
def State.conditions (s : State) : BitVec 16 := (s.link.latched &&& 0x1FFC#16) ||| s.levelConditions

/-- A condition stands. -/
def State.stands (s : State) (c : Condition) : Bool := s.conditions.getLsbD c.bit

/-- The settings in force: the stored ones once the mount has read them or FORMAT has written them, and the
defaults before (R175, R192, R196). -/
def State.cfg (s : State) : Settings := if s.store.settingsRead then s.settings else Settings.default

/-- ATTN_N is driven low: a condition stands that ATTENTION_MASK does not mask (R192). A set bit of the mask masks
its condition (DEDUCED, log entry 8). -/
def State.attentionLow (s : State) : Bool := s.conditions &&& ~~~s.cfg.attentionMask ≠ 0#16

/-- A watch match recorded (R45): WATCH_HIT is raised and the entry number joins the set. -/
def State.recordWatchHit (s : State) (entry : Nat) : State :=
  let s := s.raise .watchHit
  { s with link := { s.link with watchHits := s.link.watchHits ||| BitVec.ofNat 8 (2 ^ entry) } }

/-- Today, once the clock is set (R20). -/
def State.today (s : State) : Option Nat := if s.clock.isSet then some s.clock.day else none

end Sys2Proof.Machine
end

