-- ==== Sys2Proof/Machine/Operands.lean ====
section
/-! DEFINITION. The frames of the link (R190): how numbers, fields and lists lie in a body, every form a request
frame can take (R26), and the numbers that stand for names. -/

namespace Sys2Proof.Machine

/-! ### Numbers and fields -/

/-- `n` as `w` bytes, most significant byte first (R190). -/
def bytesOf : Nat → Nat → List Byte
  | 0, _ => []
  | w + 1, n => BitVec.ofNat 8 (n / 256 ^ w) :: bytesOf w n

/-- The number that bytes carry, most significant byte first, read after the number `acc` of the bytes before. -/
def numberFrom : Nat → List Byte → Nat
  | acc, [] => acc
  | acc, b :: rest => numberFrom (acc * 256 + b.toNat) rest

/-- The number that bytes carry, most significant byte first (R190). -/
def numberOf (bytes : List Byte) : Nat := numberFrom 0 bytes

/-- One field: a presence byte, then the value at the field's width (R190). -/
def fieldBytes (w : Nat) : Option Nat → List Byte
  | none => [0#8]
  | some n => 1#8 :: bytesOf w n

/-- A present field. -/
def field (w n : Nat) : List Byte := fieldBytes w (some n)

/-- A present signed field, in two's complement (R190). -/
def signedField (w : Nat) (i : Int) : List Byte := field w (i % (256 ^ w : Nat)).toNat

/-- A present flag: 0 NO, 1 YES (R190). -/
def flagField (b : Bool) : List Byte := field 1 (if b then 1 else 0)

/-- A present 4-byte field of a sum of cents that may not fit it; what it carries then is a free value (R89, R190, log
entry 11). -/
def centsField (n : Nat) : List Byte :=
  field 4 (if n < 256 ^ 4 then n else (Config.centsTooWide n).toNat)

/-- A list: one count byte, then the elements (R190; that a list has no presence byte of its own is DEDUCED, log
entry 6). -/
def listBytes (elements : List (List Byte)) : List Byte :=
  BitVec.ofNat 8 elements.length :: elements.flatten

/-- The fields of a body, given their widths. A frame is malformed when a presence byte is neither 0 nor 1 or the
bytes do not come out exactly at the body's end (R190). -/
def readFields : List Nat → List Byte → Option (List (Option Nat))
  | [], [] => some []
  | [], _ :: _ => none
  | _ :: _, [] => none
  | w :: ws, p :: rest =>
    if p = 0#8 then (readFields ws rest).map (none :: ·)
    else if p = 1#8 then
      if rest.length < w then none
      else (readFields ws (rest.drop w)).map (some (numberOf (rest.take w)) :: ·)
    else none

/-- The bytes of fields, given their widths. -/
def writeFields : List Nat → List (Option Nat) → List Byte
  | w :: ws, v :: vs => fieldBytes w v ++ writeFields ws vs
  | _, _ => []

/-! ### Request kinds -/

/-- The request kinds the part knows (R190). -/
inductive Kind where
  | issue | load | inquire | suspend | resume | close | replace | watchSet
  | authorize | capture | release | sale | basketOpen | basketCapture | basketRelease | refund | terminalClear
  | merchantSet | merchantRemove | merchantRead | closedRead | scheduleStage | scheduleRead
  | periodCut | periodStatus | periodRelease | payoutStart | payoutRead | payoutAbort | walkersHold | walkersResume
  | setClock | routeSet | sweepStart
  | status | statusClear | config | configRead | format
  deriving DecidableEq, Repr

/-- The kind byte of a kind (R190). -/
def Kind.value : Kind → Byte
  | .issue => 1#8
  | .load => 2#8
  | .inquire => 3#8
  | .suspend => 4#8
  | .resume => 5#8
  | .close => 6#8
  | .replace => 7#8
  | .watchSet => 8#8
  | .authorize => 16#8
  | .capture => 17#8
  | .release => 18#8
  | .sale => 19#8
  | .basketOpen => 20#8
  | .basketCapture => 21#8
  | .basketRelease => 22#8
  | .refund => 23#8
  | .terminalClear => 24#8
  | .merchantSet => 32#8
  | .merchantRemove => 33#8
  | .merchantRead => 34#8
  | .closedRead => 35#8
  | .scheduleStage => 36#8
  | .scheduleRead => 37#8
  | .periodCut => 48#8
  | .periodStatus => 49#8
  | .periodRelease => 50#8
  | .payoutStart => 51#8
  | .payoutRead => 52#8
  | .payoutAbort => 53#8
  | .walkersHold => 54#8
  | .walkersResume => 55#8
  | .setClock => 64#8
  | .routeSet => 65#8
  | .sweepStart => 66#8
  | .status => 80#8
  | .statusClear => 81#8
  | .config => 82#8
  | .configRead => 83#8
  | .format => 84#8

/-- The kind a kind byte names; every other value is unknown (R190). -/
def kindOf (b : Byte) : Option Kind :=
  match b.toNat with
  | 1 => some .issue
  | 2 => some .load
  | 3 => some .inquire
  | 4 => some .suspend
  | 5 => some .resume
  | 6 => some .close
  | 7 => some .replace
  | 8 => some .watchSet
  | 16 => some .authorize
  | 17 => some .capture
  | 18 => some .release
  | 19 => some .sale
  | 20 => some .basketOpen
  | 21 => some .basketCapture
  | 22 => some .basketRelease
  | 23 => some .refund
  | 24 => some .terminalClear
  | 32 => some .merchantSet
  | 33 => some .merchantRemove
  | 34 => some .merchantRead
  | 35 => some .closedRead
  | 36 => some .scheduleStage
  | 37 => some .scheduleRead
  | 48 => some .periodCut
  | 49 => some .periodStatus
  | 50 => some .periodRelease
  | 51 => some .payoutStart
  | 52 => some .payoutRead
  | 53 => some .payoutAbort
  | 54 => some .walkersHold
  | 55 => some .walkersResume
  | 64 => some .setClock
  | 65 => some .routeSet
  | 66 => some .sweepStart
  | 80 => some .status
  | 81 => some .statusClear
  | 82 => some .config
  | 83 => some .configRead
  | 84 => some .format
  | _ => none

/-- The widths of the fields a kind's body has, in the order its rule lists them (R30, R33, R35, R37 to R41, R44,
R52, R61, R63, R64, R78, R83, R86, R87, R89, R95, R98 to R100, R111, R113, R160, R164, R194, R195, with the
widths of R190). -/
def Kind.widths : Kind → List Nat
  | .issue => [8, 2, 4, 4, 2, 2]
  | .load => [8, 2, 1, 4, 2, 2]
  | .inquire => [8]
  | .suspend => [8]
  | .resume => [8]
  | .close => [8]
  | .replace => [8, 8]
  | .watchSet => [1, 2, 8, 1]
  | .authorize => [8, 2, 2, 4, 1, 2, 4]
  | .capture => [4, 4]
  | .release => [4]
  | .sale => [8, 2, 2, 4, 1]
  | .basketOpen => [2, 2, 2]
  | .basketCapture => [4, 4]
  | .basketRelease => [4]
  | .refund => [8, 2, 2, 4]
  | .terminalClear => [2, 2]
  | .merchantSet => [2, 1, 2, 4, 4]
  | .merchantRemove => [2]
  | .merchantRead => [2]
  | .closedRead => [2]
  | .scheduleStage => [1, 2, 2, 6, 6, 6, 2, 2, 2, 2, 6]
  | .scheduleRead => [2]
  | .periodCut => []
  | .periodStatus => []
  | .periodRelease => []
  | .payoutStart => []
  | .payoutRead => []
  | .payoutAbort => []
  | .walkersHold => []
  | .walkersResume => []
  | .setClock => [2, 4]
  | .routeSet => [1, 1]
  | .sweepStart => []
  | .status => []
  | .statusClear => [2]
  | .config => [2, 4, 2, 2, 2, 1, 4, 1, 1, 1, 2, 2]
  | .configRead => []
  | .format => []

/-! ### Enumerations (R190): names numbered from 0 in the order their rule lists them -/

/-- R1. -/
def CardState.value : CardState → Nat
  | .active => 0
  | .suspended => 1
  | .closing => 2

/-- The disposition of a card after a request that ends holds: ACTIVE, SUSPENDED, CLOSING or RETIRED (R62). -/
def dispositionValue : Option CardState → Nat
  | some st => st.value
  | none => 3

/-- R5. -/
def LotKind.value : LotKind → Nat
  | .paid => 0
  | .promo => 1

/-- R48, R74. -/
def HoldState.value : HoldState → Nat
  | .opened => 0
  | .lapsing => 1

/-- NOTIFY, DECLINE in the order in which R43's sentence names them, no table listing them (DEDUCED, log entry 7). -/
def WatchAction.value : WatchAction → Nat
  | .notify => 0
  | .decline => 1

/-- R91. -/
def MerchantState.value : MerchantState → Nat
  | .unlisted => 0
  | .active => 1
  | .suspended => 2

/-- R133. -/
def SnapshotState.value : SnapshotState → Nat
  | .empty => 0
  | .closed => 1
  | .paying => 2
  | .paid => 3

/-- R125. -/
def CounterState.value : CounterState → Nat
  | .running => 0
  | .expired => 1
  | .stopped => 2

/-- R125, R129. -/
def CutPending.value : CutPending → Nat
  | .none => 0
  | .waiting => 1
  | .deferred => 2

/-- R141. -/
def RunState.value : RunState → Nat
  | .idle => 0
  | .walking => 1
  | .stalled => 2
  | .draining => 3

/-- R141, R195. -/
def WalkMode.value : WalkMode → Nat
  | .interleaved => 0
  | .burst => 1

/-- R146. -/
def Direction.value : Direction → Nat
  | .credit => 0
  | .debit => 1
  | .nil => 2

/-- R165. -/
def PassState.value : PassState → Nat
  | .idle => 0
  | .sweeping => 1

/-- The pass-pending flag: CLEAR, SET (R165). -/
def passPendingValue (b : Bool) : Nat := if b then 1 else 0

/-- The clock-set flag: SET, UNSET in the order of R156 (log entry 7). -/
def clockSetValue (b : Bool) : Nat := if b then 0 else 1

/-- R156. -/
def ClockSource.value : ClockSource → Nat
  | .external => 0
  | .fallback => 1
  | .internal => 2

/-- R162. -/
def EventSource.value : EventSource → Nat
  | .dayRoll => 0
  | .cutTaken => 1
  | .cutDeferred => 2
  | .payoutDone => 3
  | .sweepDone => 4

/-- NONE, ATTENTION, SWEEP_START, PAYOUT_START in the order in which R162's sentence names them, no table listing them so
(DEDUCED, log entry 7). -/
def Destination.value : Destination → Nat
  | .none => 0
  | .attention => 1
  | .sweepStart => 2
  | .payoutStart => 3

/-- R173. -/
def StoreState.value : StoreState → Nat
  | .mounting => 0
  | .unformatted => 1
  | .ready => 2
  | .parked => 3

/-- R193. -/
def ResetCause.value : ResetCause → Nat
  | .powerOn => 0
  | .resetLine => 1
  | .none => 2

/-- A watch action's name, if the value has one (R43; log entry 7). -/
def watchActionOf : Nat → Option WatchAction
  | 0 => some .notify
  | 1 => some .decline
  | _ => none

/-- A route source's name, if the value has one (R162). -/
def eventSourceOf : Nat → Option EventSource
  | 0 => some .dayRoll
  | 1 => some .cutTaken
  | 2 => some .cutDeferred
  | 3 => some .payoutDone
  | 4 => some .sweepDone
  | _ => none

/-- A route destination's name, if the value has one (R162; log entry 7). -/
def destinationOf : Nat → Option Destination
  | 0 => some .none
  | 1 => some .attention
  | 2 => some .sweepStart
  | 3 => some .payoutStart
  | _ => none

/-- A walker mode's name, if the value has one (R195). -/
def walkModeOf : Nat → Option WalkMode
  | 0 => some .interleaved
  | 1 => some .burst
  | _ => none

/-! ### Requests -/

/-- The promotional part of an ISSUE (R30), carried together or not at all (R26). -/
structure PromoIssue where
  amount : Nat
  sponsor : Nat
  expiry : Nat
  deriving DecidableEq, Repr

/-- The sponsor and expiry day of a LOAD of kind PROMO (R33). -/
structure PromoLoad where
  sponsor : Nat
  expiry : Nat
  deriving DecidableEq, Repr

/-- The settings a CONFIG carries, as the frame carries them (R195). -/
structure ConfigFields where
  holdMinutes : Option Nat
  cardLimit : Option Nat
  paidExpiryDays : Option Nat
  dormantDays : Option Nat
  periodDays : Option Nat
  cutLine : Option Nat
  rollSecond : Option Nat
  clockSource : Option Nat
  payoutMode : Option Nat
  sweepMode : Option Nat
  sweepBlock : Option Nat
  attentionMask : Option Nat
  deriving DecidableEq, Repr

/-- A well-formed request, its numbers as the frame carries them. A number that lies outside its range is tested by
the request's rule; an enumeration on which the frame's form depends has chosen the constructor (R26). -/
inductive Request where
  | issue (number merchant paid : Nat) (promo : Option PromoIssue)
  /-- LOAD: of kind PROMO when `promo` is present, else of kind PAID (R26, R33). -/
  | load (number merchant amount : Nat) (promo : Option PromoLoad)
  | inquire (number : Nat)
  | suspend (number : Nat)
  | resume (number : Nat)
  | close (number : Nat)
  | replace (old new : Nat)
  | watchWrite (entry number action : Nat)
  | watchClear (entry : Nat)
  | watchList (entry : Nat)
  | authorize (number merchant terminal amount partialOk : Nat) (minutes basket : Option Nat)
  | capture (hold amount : Nat)
  | release (hold : Nat)
  | sale (number merchant terminal amount partialOk : Nat)
  | basketOpen (merchant terminal : Nat) (minutes : Option Nat)
  | basketCapture (basket amount : Nat)
  | basketRelease (basket : Nat)
  | refund (number merchant terminal amount : Nat)
  | terminalClear (merchant terminal : Nat)
  | merchantSet (index state schedule allowance payoutRef : Nat)
  | merchantRemove (index : Nat)
  | merchantRead (index : Nat)
  | closedRead (index : Nat)
  | scheduleWrite (number : Nat) (copy : Schedule)
  | scheduleClear (number : Nat)
  | scheduleRead (number : Nat)
  | periodCut
  | periodStatus
  | periodRelease
  | payoutStart
  | payoutRead
  | payoutAbort
  | walkersHold
  | walkersResume
  | setClock (day second : Nat)
  /-- ROUTE_SET: source and destination together, or neither (R164). -/
  | routeSet (pair : Option (Nat × Nat))
  | sweepStart
  | status
  | statusClear (set : Nat)
  | config (fields : ConfigFields)
  | configRead
  | format
  deriving DecidableEq, Repr

/-- ISSUE: the promotional amount, sponsor and expiry day together or not at all (R26, R30). -/
def issueOf : List (Option Nat) → Option Request
  | [some n, some m, some p, none, none, none] => some (.issue n m p none)
  | [some n, some m, some p, some a, some sp, some d] => some (.issue n m p (some ⟨a, sp, d⟩))
  | _ => none

/-- LOAD: kind PROMO carries a sponsor and an expiry day, kind PAID neither; a kind byte that names no kind makes the
frame malformed (R26, R33). -/
def loadOf : List (Option Nat) → Option Request
  | [some n, some m, some k, some a, none, none] =>
    if k = LotKind.paid.value then some (.load n m a none) else none
  | [some n, some m, some k, some a, some sp, some d] =>
    if k = LotKind.promo.value then some (.load n m a (some ⟨sp, d⟩)) else none
  | _ => none

/-- WATCH_SET: the operations WRITE, CLEAR and LIST are 0, 1 and 2; WRITE carries a number and an action, the
others neither (R26, R44). -/
def watchSetOf : List (Option Nat) → Option Request
  | [some op, some e, some n, some a] => if op = 0 then some (.watchWrite e n a) else none
  | [some op, some e, none, none] =>
    if op = 1 then some (.watchClear e) else if op = 2 then some (.watchList e) else none
  | _ => none

/-- AUTHORIZE: minutes or a basket number, not both (R52). -/
def authorizeOf : List (Option Nat) → Option Request
  | [some n, some m, some t, some a, some p, mi, b] =>
    if mi.isSome && b.isSome then none else some (.authorize n m t a p mi b)
  | _ => none

/-- The nine fields of a schedule copy, all required (R109, R111). -/
def scheduleOf : List (Option Nat) → Option Schedule
  | [some f, some t1, some t2, some t3, some r0, some r1, some r2, some r3, some c] =>
    some ⟨f, t1, t2, t3, r0, r1, r2, r3, c⟩
  | _ => none

/-- SCHEDULE_STAGE: the operations WRITE and CLEAR are 0 and 1; WRITE carries every field of the copy, CLEAR none
(R111). -/
def scheduleStageOf : List (Option Nat) → Option Request
  | some op :: some n :: copy =>
    if op = 0 then (scheduleOf copy).map (.scheduleWrite n)
    else if op = 1 then if copy = List.replicate 9 none then some (.scheduleClear n) else none
    else none
  | _ => none

/-- ROUTE_SET: source and destination together, or neither (R164). -/
def routeSetOf : List (Option Nat) → Option Request
  | [none, none] => some (.routeSet none)
  | [some so, some de] => some (.routeSet (some (so, de)))
  | _ => none

/-- A body of no field. -/
def noFieldOf (r : Request) : List (Option Nat) → Option Request
  | [] => some r
  | _ => none

/-- A body of one required field. -/
def oneFieldOf (f : Nat → Request) : List (Option Nat) → Option Request
  | [some a] => some (f a)
  | _ => none

/-- A body of two required fields. -/
def twoFieldsOf (f : Nat → Nat → Request) : List (Option Nat) → Option Request
  | [some a, some b] => some (f a b)
  | _ => none

/-- A body of four required fields. -/
def fourFieldsOf (f : Nat → Nat → Nat → Nat → Request) : List (Option Nat) → Option Request
  | [some a, some b, some c, some d] => some (f a b c d)
  | _ => none

/-- A body of five required fields. -/
def fiveFieldsOf (f : Nat → Nat → Nat → Nat → Nat → Request) : List (Option Nat) → Option Request
  | [some a, some b, some c, some d, some e] => some (f a b c d e)
  | _ => none

/-- BASKET_OPEN: the minutes are optional (R78). -/
def basketOpenOf : List (Option Nat) → Option Request
  | [some m, some t, mi] => some (.basketOpen m t mi)
  | _ => none

/-- CONFIG: every setting is optional (R195). -/
def configOf : List (Option Nat) → Option Request
  | [a, b, c, d, e, f, g, h, i, j, k, l] => some (.config ⟨a, b, c, d, e, f, g, h, i, j, k, l⟩)
  | _ => none

/-- The request that the fields of a body make, where they have the form their kind requires: a required field is
present, and a field that the kind or another field's value forbids is absent (R26, R190). -/
def requestOf (k : Kind) (fields : List (Option Nat)) : Option Request :=
  match k with
  | .issue => issueOf fields
  | .load => loadOf fields
  | .inquire => oneFieldOf .inquire fields
  | .suspend => oneFieldOf .suspend fields
  | .resume => oneFieldOf .resume fields
  | .close => oneFieldOf .close fields
  | .replace => twoFieldsOf .replace fields
  | .watchSet => watchSetOf fields
  | .authorize => authorizeOf fields
  | .capture => twoFieldsOf .capture fields
  | .release => oneFieldOf .release fields
  | .sale => fiveFieldsOf .sale fields
  | .basketOpen => basketOpenOf fields
  | .basketCapture => twoFieldsOf .basketCapture fields
  | .basketRelease => oneFieldOf .basketRelease fields
  | .refund => fourFieldsOf .refund fields
  | .terminalClear => twoFieldsOf .terminalClear fields
  | .merchantSet => fiveFieldsOf .merchantSet fields
  | .merchantRemove => oneFieldOf .merchantRemove fields
  | .merchantRead => oneFieldOf .merchantRead fields
  | .closedRead => oneFieldOf .closedRead fields
  | .scheduleStage => scheduleStageOf fields
  | .scheduleRead => oneFieldOf .scheduleRead fields
  | .periodCut => noFieldOf .periodCut fields
  | .periodStatus => noFieldOf .periodStatus fields
  | .periodRelease => noFieldOf .periodRelease fields
  | .payoutStart => noFieldOf .payoutStart fields
  | .payoutRead => noFieldOf .payoutRead fields
  | .payoutAbort => noFieldOf .payoutAbort fields
  | .walkersHold => noFieldOf .walkersHold fields
  | .walkersResume => noFieldOf .walkersResume fields
  | .setClock => twoFieldsOf .setClock fields
  | .routeSet => routeSetOf fields
  | .sweepStart => noFieldOf .sweepStart fields
  | .status => noFieldOf .status fields
  | .statusClear => oneFieldOf .statusClear fields
  | .config => configOf fields
  | .configRead => noFieldOf .configRead fields
  | .format => noFieldOf .format fields

/-- The request a body carries under its kind; none when the frame is malformed (R26, R190). -/
def readRequest (k : Kind) (body : List Byte) : Option Request := (readFields k.widths body).bind (requestOf k)

/-- The kind of a request. -/
def Request.kind : Request → Kind
  | .issue .. => .issue
  | .load .. => .load
  | .inquire _ => .inquire
  | .suspend _ => .suspend
  | .resume _ => .resume
  | .close _ => .close
  | .replace .. => .replace
  | .watchWrite .. => .watchSet
  | .watchClear _ => .watchSet
  | .watchList _ => .watchSet
  | .authorize .. => .authorize
  | .capture .. => .capture
  | .release _ => .release
  | .sale .. => .sale
  | .basketOpen .. => .basketOpen
  | .basketCapture .. => .basketCapture
  | .basketRelease _ => .basketRelease
  | .refund .. => .refund
  | .terminalClear .. => .terminalClear
  | .merchantSet .. => .merchantSet
  | .merchantRemove _ => .merchantRemove
  | .merchantRead _ => .merchantRead
  | .closedRead _ => .closedRead
  | .scheduleWrite .. => .scheduleStage
  | .scheduleClear _ => .scheduleStage
  | .scheduleRead _ => .scheduleRead
  | .periodCut => .periodCut
  | .periodStatus => .periodStatus
  | .periodRelease => .periodRelease
  | .payoutStart => .payoutStart
  | .payoutRead => .payoutRead
  | .payoutAbort => .payoutAbort
  | .walkersHold => .walkersHold
  | .walkersResume => .walkersResume
  | .setClock .. => .setClock
  | .routeSet _ => .routeSet
  | .sweepStart => .sweepStart
  | .status => .status
  | .statusClear _ => .statusClear
  | .config _ => .config
  | .configRead => .configRead
  | .format => .format

/-- The fields a request's body carries, in order. -/
def Request.fields : Request → List (Option Nat)
  | .issue n m p none => [some n, some m, some p, none, none, none]
  | .issue n m p (some q) => [some n, some m, some p, some q.amount, some q.sponsor, some q.expiry]
  | .load n m a none => [some n, some m, some 0, some a, none, none]
  | .load n m a (some q) => [some n, some m, some 1, some a, some q.sponsor, some q.expiry]
  | .inquire n => [some n]
  | .suspend n => [some n]
  | .resume n => [some n]
  | .close n => [some n]
  | .replace o n => [some o, some n]
  | .watchWrite e n a => [some 0, some e, some n, some a]
  | .watchClear e => [some 1, some e, none, none]
  | .watchList e => [some 2, some e, none, none]
  | .authorize n m t a p mi b => [some n, some m, some t, some a, some p, mi, b]
  | .capture h a => [some h, some a]
  | .release h => [some h]
  | .sale n m t a p => [some n, some m, some t, some a, some p]
  | .basketOpen m t mi => [some m, some t, mi]
  | .basketCapture b a => [some b, some a]
  | .basketRelease b => [some b]
  | .refund n m t a => [some n, some m, some t, some a]
  | .terminalClear m t => [some m, some t]
  | .merchantSet i st sc al pr => [some i, some st, some sc, some al, some pr]
  | .merchantRemove i => [some i]
  | .merchantRead i => [some i]
  | .closedRead i => [some i]
  | .scheduleWrite n c =>
    [some 0, some n, some c.fixedFee, some c.t1, some c.t2, some c.t3, some c.r0, some c.r1, some c.r2, some c.r3,
     some c.cap]
  | .scheduleClear n => [some 1, some n, none, none, none, none, none, none, none, none, none]
  | .scheduleRead n => [some n]
  | .periodCut => []
  | .periodStatus => []
  | .periodRelease => []
  | .payoutStart => []
  | .payoutRead => []
  | .payoutAbort => []
  | .walkersHold => []
  | .walkersResume => []
  | .setClock d se => [some d, some se]
  | .routeSet none => [none, none]
  | .routeSet (some (so, de)) => [some so, some de]
  | .sweepStart => []
  | .status => []
  | .statusClear c => [some c]
  | .config c =>
    [c.holdMinutes, c.cardLimit, c.paidExpiryDays, c.dormantDays, c.periodDays, c.cutLine, c.rollSecond, c.clockSource,
     c.payoutMode, c.sweepMode, c.sweepBlock, c.attentionMask]
  | .configRead => []
  | .format => []

/-- The body bytes of a request. -/
def writeRequest (r : Request) : List Byte := writeFields r.kind.widths r.fields

/-- The request frame of a request, as the intake queue holds it. -/
def Request.frame (r : Request) (tag : Tag) : Frame := ⟨r.kind.value, tag, writeRequest r⟩

/-- The bytes a host clocks after the code byte of a PUT to hand a frame in (R185, R190). -/
def Frame.bytes (f : Frame) : List Byte :=
  bytesOf 2 (3 + f.body.length) ++ f.kind :: bytesOf 2 f.tag.toNat ++ f.body

/-- Every field's number fits its width, so that a frame can carry the request. An AUTHORIZE does not carry both
minutes and a basket number (R52). -/
def Request.fits (r : Request) : Bool :=
  (r.kind.widths.zip r.fields).all (fun e => match e.2 with
    | none => true
    | some n => n < 256 ^ e.1)
  && match r with
    | .authorize _ _ _ _ _ (some _) (some _) => false
    | _ => true

/-- The request a frame carries: none for an unknown kind and for a malformed body. -/
def Frame.request (f : Frame) : Option Request := (kindOf f.kind).bind (fun k => readRequest k f.body)

/-- The first field of a body, where it is present and one byte wide: the operation of WATCH_SET and
SCHEDULE_STAGE. -/
def leadingByte : List Byte → Option Nat
  | p :: v :: _ => if p = 1#8 then some v.toNat else none
  | _ => none

/-! ### Outcomes -/

/-- The outcomes of an answer (R190, section 11.4). -/
inductive Result where
  | ok | partialOk | badRequest | badValue | badNumber | noCard | duplicate | cardSuspended | cardClosing
  | insufficient | limit | lotsFull | tableFull | holdsFull | basketFull | unknownHold | unknownBasket
  | exceedsHold | holdsOpen | notEmpty | watched | merchantInactive | refundLimit | wrongState | notReady | clockUnset
  deriving DecidableEq, Repr

/-- The outcome byte of an answer (section 11.4). -/
def Result.value : Result → Byte
  | .ok => 0#8
  | .partialOk => 1#8
  | .badRequest => 2#8
  | .badValue => 3#8
  | .badNumber => 4#8
  | .noCard => 5#8
  | .duplicate => 6#8
  | .cardSuspended => 7#8
  | .cardClosing => 8#8
  | .insufficient => 9#8
  | .limit => 10#8
  | .lotsFull => 11#8
  | .tableFull => 12#8
  | .holdsFull => 13#8
  | .basketFull => 14#8
  | .unknownHold => 15#8
  | .unknownBasket => 16#8
  | .exceedsHold => 17#8
  | .holdsOpen => 18#8
  | .notEmpty => 19#8
  | .watched => 20#8
  | .merchantInactive => 21#8
  | .refundLimit => 22#8
  | .wrongState => 23#8
  | .notReady => 24#8
  | .clockUnset => 25#8

/-- What a request answers: its outcome and the answer's fields. -/
structure Reply where
  result : Result
  body : List Byte
  deriving DecidableEq, Repr

/-- A refusal: no field (R29, section 11.4). -/
def refuse (r : Result) : Reply := ⟨r, []⟩

/-- A refusal with INSUFFICIENT, which carries the card's total available (R54, R64). -/
def insufficient (available : Nat) : Reply := ⟨.insufficient, field 4 available⟩

/-- The answer frame to a request frame (R187, R190): length, kind, tag, outcome, fields. -/
def answerFrame (f : Frame) (r : Reply) : List Byte :=
  bytesOf 2 (4 + r.body.length) ++ f.kind :: bytesOf 2 f.tag.toNat ++ r.result.value :: r.body

end Sys2Proof.Machine
end

