-- ==== Sys2Proof/Machine/Cards.lean ====
section
/-! DEFINITION. What happens inside one card: the number check, the lots in spend order, expiry, reservation,
taking and returning (chapter 1). Each operation here works on a card alone and says which postings it makes;
Sys2Proof/Machine/Ops.lean carries the postings out. -/

namespace Sys2Proof.Machine

/-- One change of a sum, in the open period (R19, R102, R103, R117). -/
inductive Posting where
  | sold (merchant amount : Nat)
  | redeemed (merchant amount : Nat)
  | refunded (merchant amount : Nat)
  | sponsorCost (merchant amount : Nat)
  | promoLapsed (merchant amount : Nat)
  | breakage (amount : Nat)
  /-- The fee units of a take and one capture (R60, R117). -/
  | feePart (merchant amount : Nat)
  | sponsoredUp (merchant amount : Nat)
  | sponsoredDown (merchant amount : Nat)
  | paidUp (amount : Nat)
  | paidDown (amount : Nat)
  | promoUp (amount : Nat)
  | promoDown (amount : Nat)
  deriving DecidableEq, Repr

/-! ### The card number check (R4) -/

/-- What one digit adds to the check sum: a digit in an even position is doubled, less 9 when above 9 (R4). -/
def digitWeight (even : Bool) (d : Nat) : Nat :=
  if even then (if 2 * d > 9 then 2 * d - 9 else 2 * d) else d

/-- The weighted sum of the `k` lowest decimal digits of `n`, the lowest in an even position when `even` (R4). -/
def digitSum : Nat → Bool → Nat → Nat
  | 0, _, _ => 0
  | k + 1, even, n => digitWeight even (n % 10) + digitSum k (!even) (n / 10)

/-- A valid card number: 16 digits at most, and the check sum a multiple of 10 (R4). -/
def validNumber (n : Nat) : Bool := n ≤ Config.cardNumberMax && digitSum 16 false n % 10 == 0

/-! ### Lots (R5 to R11) -/

/-- A card's value: available plus held over its lots (R11). -/
def lotsValue (lots : List Lot) : Nat := (lots.map (fun l => l.available + l.held)).sum

/-- A card's total available (R11). -/
def lotsAvailable (lots : List Lot) : Nat := (lots.map (·.available)).sum

/-- A card's total held (R11). -/
def lotsHeld (lots : List Lot) : Nat := (lots.map (·.held)).sum

/-- A lot with key `a` sorts before a lot with key `b` (R7): PROMO before PAID; within a kind the earlier expiry day
first, no expiry day last. -/
def sortsBefore (a b : LotKey) : Bool :=
  match a.kind, b.kind with
  | .promo, .paid => true
  | .paid, .promo => false
  | _, _ =>
    match a.expiry, b.expiry with
    | some d, some e => d < e
    | some _, none => true
    | none, _ => false

/-- A new lot placed before the first lot that sorts after it (R7). -/
def insertLot (new : Lot) : List Lot → List Lot
  | [] => [new]
  | l :: rest => if sortsBefore new.key l.key then new :: l :: rest else l :: insertLot new rest

/-- Some lot of the card has this key (R6). -/
def hasKey (key : LotKey) (lots : List Lot) : Bool := lots.any (fun l => l.key == key)

/-- A credit: added to the available of the lot with its key, or a new lot (R6). -/
def creditLots (key : LotKey) (amount : Nat) (lots : List Lot) : List Lot :=
  if hasKey key lots then
    lots.map (fun l => if l.key = key then { l with available := l.available + amount } else l)
  else insertLot ⟨key, amount, 0⟩ lots

/-- A credit would need a seventh lot (R8). -/
def lotsFull (key : LotKey) (lots : List Lot) : Bool := !hasKey key lots && Config.lotsPerCard ≤ lots.length

/-- Lots without those whose available and held are both 0 (R9). -/
def dropEmpty (lots : List Lot) : List Lot := lots.filter (fun l => 0 < l.available + l.held)

/-- The key of a PAID credit made today (R5, R31, R33, R87): the expiry day is today plus PAID_EXPIRY_DAYS, stopping
at the last day, and absent when that setting is 0. -/
def paidKey (paidExpiryDays today : Nat) : LotKey :=
  ⟨.paid, none, if paidExpiryDays = 0 then none else some (min (today + paidExpiryDays) Config.dayMax)⟩

/-- The key of a PROMO credit (R31, R33). -/
def promoKey (sponsor expiry : Nat) : LotKey := ⟨.promo, some sponsor, some expiry⟩

/-! ### Expiry (R20 to R23) -/

/-- A lot with this key is expired: it has an expiry day and today is greater (R20). While the clock is unset no lot
is treated as expired. -/
def keyExpired (today : Option Nat) (key : LotKey) : Bool :=
  match today, key.expiry with
  | some t, some d => d < t
  | _, _ => false

/-- The postings of the expiry of `amount` cents of a lot (R21). -/
def expiryPostings (key : LotKey) (amount : Nat) : List Posting :=
  if amount = 0 then []
  else match key.kind with
    | .paid => [.breakage amount, .paidDown amount]
    | .promo =>
      [.promoLapsed (key.sponsor.getD 0) amount, .sponsoredDown (key.sponsor.getD 0) amount, .promoDown amount]

/-- A lot after expiry: an expired lot keeps its held and loses its available (R21). -/
def expireLot (today : Option Nat) (l : Lot) : Lot :=
  if keyExpired today l.key then { l with available := 0 } else l

/-- The postings of one lot's expiry (R21). -/
def lotPostings (today : Option Nat) (l : Lot) : List Posting :=
  if keyExpired today l.key then expiryPostings l.key l.available else []

/-- The lots of a card after expiry, emptied lots removed (R21, R22). -/
def expireLots (today : Option Nat) (lots : List Lot) : List Lot := dropEmpty (lots.map (expireLot today))

/-- The postings of the expiry of a card's lots, in spend order (R21). -/
def lotsPostings (today : Option Nat) (lots : List Lot) : List Posting := lots.flatMap (lotPostings today)

/-- A card after lazy expiry (R22). -/
def Card.expire (today : Option Nat) (c : Card) : Card := { c with lots := expireLots today c.lots }

/-! ### Reserving and drawing (R10, R55, R65) -/

/-- The reserve step over the lots in spend order: each lot gives what it can until the amount is covered (R55). -/
def reserveLots : Nat → List Lot → List Lot
  | _, [] => []
  | a, l :: rest =>
    let c := min a l.available
    { l with available := l.available - c, held := l.held + c } :: reserveLots (a - c) rest

/-- The reservation parts that drawing `a` cents from the lots yields, in the order drawn (R55). -/
def partsOf : Nat → List Lot → List Part
  | _, [] => []
  | a, l :: rest =>
    let c := min a l.available
    if c = 0 then partsOf (a - c) rest else ⟨l.key, c⟩ :: partsOf (a - c) rest

/-- The draw of a SALE: the cents leave the lots' available and the card (R65). -/
def drawLots : Nat → List Lot → List Lot
  | _, [] => []
  | a, l :: rest =>
    let c := min a l.available
    { l with available := l.available - c } :: drawLots (a - c) rest

/-! ### Taking and returning reserved parts (R58) -/

/-- A reservation part split into cents taken and cents returned (R58, step 2). -/
structure PartEnd where
  key : LotKey
  taken : Nat
  returned : Nat
  deriving DecidableEq, Repr

/-- The captured amount split over the reservation parts in their order: the earliest parts are captured first (R58,
step 2). -/
def splitParts : Nat → List Part → List PartEnd
  | _, [] => []
  | c, p :: rest =>
    let t := min c p.cents
    ⟨p.key, t, p.cents - t⟩ :: splitParts (c - t) rest

/-- Taken cents leave the lot's held, returned cents move from held to available, and cents returned to an expired
lot are expired at once (R10, R23, R58, step 3). -/
def endPart (today : Option Nat) (lots : List Lot) (p : PartEnd) : List Lot :=
  lots.map (fun l =>
    if l.key = p.key then
      expireLot today { l with available := l.available + p.returned, held := l.held - (p.taken + p.returned) }
    else l)

/-- The cents of a part's return that are expired at once (R23). -/
def PartEnd.expired (today : Option Nat) (p : PartEnd) : Nat := if keyExpired today p.key then p.returned else 0

/-- The promotional or paid cents taken by a part, as postings that belong to the part and not to the capturing
merchant (R59). -/
def takenPostings (key : LotKey) (amount : Nat) : List Posting :=
  if amount = 0 then []
  else match key.kind with
    | .paid => [.paidDown amount]
    | .promo =>
      [.sponsorCost (key.sponsor.getD 0) amount, .sponsoredDown (key.sponsor.getD 0) amount, .promoDown amount]

/-- The postings of one part's end: expiry at once on return, then the taken cents (R58, R59). -/
def PartEnd.postings (today : Option Nat) (p : PartEnd) : List Posting :=
  expiryPostings p.key (p.expired today) ++ takenPostings p.key p.taken

/-- The paid cents among parts taken. -/
def paidTaken (parts : List PartEnd) : Nat :=
  (parts.map (fun p => if p.key.kind = .paid then p.taken else 0)).sum

/-- The promotional cents among parts taken. -/
def promoTaken (parts : List PartEnd) : Nat :=
  (parts.map (fun p => if p.key.kind = .promo then p.taken else 0)).sum

/-- The lots of a card after the end of a hold (R58, steps 1 to 4). -/
def endLots (today : Option Nat) (parts : List PartEnd) (lots : List Lot) : List Lot :=
  dropEmpty (parts.foldl (endPart today) (expireLots today lots))

/-- The postings a hold's end makes for its card: lazy expiry, expiry on return, sponsors and totals (R58, R59). -/
def endPostings (today : Option Nat) (parts : List PartEnd) (lots : List Lot) : List Posting :=
  lotsPostings today lots ++ parts.flatMap (PartEnd.postings today)

end Sys2Proof.Machine
end

