-- ==== Sys2Proof/Machine/Fees.lean ====
section
/-! DEFINITION. The arithmetic of the Fee Unit: tier boundaries, the tier split of a take, and the fee close
(chapter 6). All of it is exact; where a sum stops at its maximum, the caller says so. -/

namespace Sys2Proof.Machine

/-- The boundary E1: the larger of T1 and E0 = 0 (R115). -/
def Schedule.e1 (c : Schedule) : Nat := c.t1
/-- The boundary E2: the larger of T2 and E1 (R115). -/
def Schedule.e2 (c : Schedule) : Nat := max c.t2 c.e1
/-- The boundary E3: the larger of T3 and E2 (R115). -/
def Schedule.e3 (c : Schedule) : Nat := max c.t3 c.e2

/-- The length of the overlap of the volumes from `lo` up to `hi` with the volumes from `v` up to `w`. -/
def overlap (v w lo hi : Nat) : Nat := min w hi - max v lo

/-- The tier split of a take: the fee units of `a` cents taken from tier volume `v` (R116). -/
def tierSplit (c : Schedule) (v a : Nat) : Nat :=
  overlap v (v + a) 0 c.e1 * c.r0 + overlap v (v + a) c.e1 c.e2 * c.r1 + overlap v (v + a) c.e2 c.e3 * c.r2
    + (v + a - max v c.e3) * c.r3

/-- FEE_UNITS converted to cents with rounding half up (R119). -/
def variableFee (feeUnits : Nat) : Nat := (feeUnits + 5000) / 10000

/-- A merchant's FEE for the closed period (R120): variable fee and fixed part, held to the cap when there is one,
then to REDEEMED. -/
def feeOf (c : Schedule) (p : Position) : Nat :=
  let gross := variableFee p.feeUnits + c.fixedFee * p.captureCount
  let capped := if c.cap = 0 then gross else min gross c.cap
  min capped p.redeemed

/-- NET before it is fitted to its width (R135). -/
def netExact (c : ClosedPosition) : Int :=
  (c.position.redeemed : Int) - c.position.refunded - c.position.sold - c.position.sponsorCost - c.fee
    + c.position.breakage + c.feeIncome

/-- The least NET of 49 bits (R135). -/
def netMin : Int := -281474976710656
/-- The greatest NET of 49 bits (R135). -/
def netMax : Int := 281474976710655

/-- NET outside its range is set to the nearer end (R135). -/
def clampNet (i : Int) : Int := if i < netMin then netMin else if netMax < i then netMax else i

end Sys2Proof.Machine
end

