-- ==== Sys2Proof/Machine/Ops.lean ====
section
/-! DEFINITION. The operations that commands share: saturating sums and postings (R105), the routes of internal
events and the starts they cause (R144, R163, R166), cut requests (R129), minute ticks (R66, R80), the store
arbiter (R176 to R178), and the Request Engine's service of a frame (R175, R187). -/

namespace Sys2Proof.Machine

/-! ### Saturating sums and postings -/

/-- A sum after an increase: past its maximum it stops there (R105). -/
def satAdd (max v a : Nat) : Nat := if max < v + a then max else v + a

/-- An increase passes the maximum (R105). -/
def satHit (max v a : Nat) : Bool := max < v + a

/-- A sum after a decrease: one that stands at its maximum stays there (R105). -/
def satSub (max v a : Nat) : Nat := if v = max then v else v - a

/-- A 48-bit sum increased. -/
def add48 (v a : Nat) : Nat := satAdd Config.sum48Max v a

/-- A 48-bit sum decreased. -/
def sub48 (v a : Nat) : Nat := satSub Config.sum48Max v a

/-- A position field of a merchant increased by `a`, the field given by reading and writing it (R102, R105). -/
def State.postField (s : State) (i : Nat) (get : Position → Nat) (put : Position → Nat → Position) (a : Nat) : State :=
  let p := (s.merchant i).position
  (s.onMerchant i (fun m => { m with position := put p (add48 (get p) a) })).raiseIf
    (satHit Config.sum48Max (get p) a) .saturated

/-- The fee part of a take (R60, R117): the tier split from the merchant's open REDEEMED under its active schedule,
and one capture; none at index 0. -/
def State.postFee (s : State) (i a : Nat) : State :=
  if i = 0 then s
  else
    let m := s.merchant i
    let p := m.position
    let units := tierSplit (s.schedule m.schedule).active p.redeemed a
    (s.onMerchant i (fun m => { m with position := { p with
        feeUnits := satAdd Config.feeUnitsMax p.feeUnits units
        captureCount := add48 p.captureCount 1 } })).raiseIf
      (satHit Config.feeUnitsMax p.feeUnits units || satHit Config.sum48Max p.captureCount 1) .saturated

/-- Sponsored outstanding of a merchant changed (R103). -/
def State.postSponsored (s : State) (i : Nat) (f : Nat → Nat) (hit : Bool) : State :=
  (s.onMerchant i (fun m => { m with sponsored := f m.sponsored })).raiseIf hit .saturated

/-- One posting carried out (R19, R102, R103, R105). -/
def State.post (s : State) : Posting → State
  | .sold i a => s.postField i (·.sold) (fun p v => { p with sold := v }) a
  | .redeemed i a => s.postField i (·.redeemed) (fun p v => { p with redeemed := v }) a
  | .refunded i a => s.postField i (·.refunded) (fun p v => { p with refunded := v }) a
  | .sponsorCost i a => s.postField i (·.sponsorCost) (fun p v => { p with sponsorCost := v }) a
  | .promoLapsed i a => s.postField i (·.promoLapsed) (fun p v => { p with promoLapsed := v }) a
  | .breakage a => s.postField 0 (·.breakage) (fun p v => { p with breakage := v }) a
  | .feePart i a => s.postFee i a
  | .sponsoredUp i a =>
    s.postSponsored i (add48 · a) (satHit Config.sum48Max (s.merchant i).sponsored a)
  | .sponsoredDown i a => s.postSponsored i (sub48 · a) false
  | .paidUp a =>
    ({ s with cards := { s.cards with paidOutstanding := add48 s.cards.paidOutstanding a } }).raiseIf
      (satHit Config.sum48Max s.cards.paidOutstanding a) .saturated
  | .paidDown a => { s with cards := { s.cards with paidOutstanding := sub48 s.cards.paidOutstanding a } }
  | .promoUp a =>
    ({ s with cards := { s.cards with promoOutstanding := add48 s.cards.promoOutstanding a } }).raiseIf
      (satHit Config.sum48Max s.cards.promoOutstanding a) .saturated
  | .promoDown a => { s with cards := { s.cards with promoOutstanding := sub48 s.cards.promoOutstanding a } }

/-- Postings carried out in order. -/
def State.postAll (s : State) (ps : List Posting) : State := ps.foldl State.post s

/-- The postings of a take at the capturing merchant: the fee part, then REDEEMED (R59, R60). A take of nothing posts
nothing. -/
def capturePostings (merchant amount : Nat) : List Posting :=
  if amount = 0 then [] else [.feePart merchant amount, .redeemed merchant amount]

/-! ### Cut requests, starts and routed events -/

/-- A cut request reaches the cut-pending flag (R129). -/
def State.requestCut (s : State) : State :=
  match s.period.cutPending with
  | .none => { s with period := { s.period with cutPending := .waiting } }
  | .waiting => s
  | .deferred => s

/-- A payout run starts (R143, steps 1 to 5). -/
def State.startRun (s : State) : State :=
  let p := s.period.snapshot
  { s with
    period := { s.period with snapshot := { p with state := .paying } }
    payout := { s.payout with run :=
      ⟨.walking, 0, s.cfg.payoutMode, p.period, p.previousPaid, p.thisPaid, 0, 0, 0, 0⟩ } }

/-- A routed start of a payout run: taken when the store is READY and the snapshot CLOSED, else ignored (R144). -/
def State.routedRunStart (s : State) : State :=
  if s.store.state = .ready ∧ s.period.snapshot.state = .closed then s.startRun else s

/-- A sweep pass begins: position 0, mode and block from the settings (R166). -/
def State.beginPass (s : State) : State :=
  { s with sweep := ⟨.sweeping, 0, false, s.cfg.sweepMode, s.cfg.sweepBlock⟩ }

/-- A pass start reaches the Expiry Sweep (R166). -/
def State.startPass (s : State) : State :=
  match s.sweep.pass with
  | .idle => s.beginPass
  | .sweeping => { s with sweep := { s.sweep with passPending := true } }

/-- A routed pass start: taken when the store is READY and the clock is SET, else ignored (R166). -/
def State.routedPassStart (s : State) : State :=
  if s.store.state = .ready ∧ s.clock.isSet = true then s.startPass else s

/-- The destination that the working route table names for a source (R162). -/
def Routes.of (r : Routes) : EventSource → Destination
  | .dayRoll => r.dayRoll
  | .cutTaken => r.cutTaken
  | .cutDeferred => r.cutDeferred
  | .payoutDone => r.payoutDone
  | .sweepDone => r.sweepDone

/-- The route table with one entry written (R164). -/
def Routes.set (r : Routes) (source : EventSource) (d : Destination) : Routes :=
  match source with
  | .dayRoll => { r with dayRoll := d }
  | .cutTaken => { r with cutTaken := d }
  | .cutDeferred => { r with cutDeferred := d }
  | .payoutDone => { r with payoutDone := d }
  | .sweepDone => { r with sweepDone := d }

/-- The status condition with a source's name (R163). -/
def EventSource.condition : EventSource → Condition
  | .dayRoll => .dayRoll
  | .cutTaken => .cutTaken
  | .cutDeferred => .cutDeferred
  | .payoutDone => .payoutDone
  | .sweepDone => .sweepDone

/-- The Event Router delivers an event to the destination its source's entry names (R163). -/
def State.deliver (s : State) (source : EventSource) : State :=
  match s.routes.of source with
  | .none => s
  | .attention => s.raise source.condition
  | .sweepStart => s.routedPassStart
  | .payoutStart => s.routedRunStart

/-! ### Minute ticks -/

/-- A basket lapses at the next tick: it is OPEN and its minutes left reach 0 (R80). -/
def Basket.lapsesNext (b : Basket) : Bool := b.state = .opened && b.minutes ≤ 1

/-- The numbers of the baskets that lapse at the next tick. -/
def HoldTable.lapsingBaskets (h : HoldTable) : List Nat := (h.baskets.filter Basket.lapsesNext).map (·.number)

/-- A hold of its own timer lapses at the next tick (R66). -/
def Hold.lapsesAlone (h : Hold) : Bool :=
  h.state = .opened && h.basket.isNone && (match h.minutes with
    | some m => m ≤ 1
    | none => false)

/-- A hold lapses at the next tick, by its own timer or with its basket (R66, R80). -/
def Hold.lapsesNext (baskets : List Nat) (h : Hold) : Bool :=
  h.lapsesAlone || (h.state = .opened && (match h.basket with
    | some b => baskets.contains b
    | none => false))

/-- A hold entry after a tick (R66, R80). -/
def Hold.tick (baskets : List Nat) (h : Hold) : Hold :=
  if h.state = .opened then
    { h with
      minutes := if h.basket.isNone then h.minutes.map (· - 1) else h.minutes
      state := if h.lapsesNext baskets then .lapsing else .opened }
  else h

/-- A basket entry after a tick (R80). -/
def Basket.tick (b : Basket) : Basket :=
  if b.state = .opened then
    { b with minutes := b.minutes - 1, state := if b.lapsesNext then .lapsing else .opened }
  else b

/-- The Hold Table takes one minute tick (R66, R69, R80): counts down, makes LAPSING, and appends to the lapse list
the holds in the order their numbers were assigned and then the baskets that lapse without members. -/
def HoldTable.tick (h : HoldTable) : HoldTable :=
  let baskets := h.lapsingBaskets
  { h with
    holds := h.holds.map (Hold.tick baskets)
    baskets := h.baskets.map Basket.tick
    lapse := h.lapse ++ (h.holds.filter (Hold.lapsesNext baskets)).map (fun e => LapseItem.hold e.number)
      ++ (h.baskets.filter (fun b => b.lapsesNext && b.members.isEmpty)).map (fun b => LapseItem.basket b.number) }

/-- A number of minute ticks taken one after another. -/
def HoldTable.ticks : Nat → HoldTable → HoldTable
  | 0, h => h
  | n + 1, h => HoldTable.ticks n h.tick

/-- The minute ticks that wait for the unit in progress are taken (R66). -/
def State.takeTicks (s : State) : State :=
  { s with hold := { HoldTable.ticks s.hold.ticksDue s.hold with ticksDue := 0 } }

/-! ### The arbiter -/

/-- A request kind that needs a store grant while the store is READY, also when it is refused (R178). FORMAT is none of those that
R178 lists, and R178 names only a FORMAT answered WRONG_STATE as served without a claim: that a malformed FORMAT is served
without one too is DESIGN CHOICE (log entry 28). -/
def Kind.needsGrant : Kind → Bool
  | .status => false
  | .statusClear => false
  | .payoutRead => false
  | .routeSet => false
  | .walkersHold => false
  | .walkersResume => false
  | .format => false
  | _ => true

/-- A frame needs a store grant in the present store state (R175, R178, R182). -/
def State.frameNeedsGrant (s : State) (f : Frame) : Bool :=
  match kindOf f.kind with
  | none => false
  | some k =>
    match s.store.state with
    | .ready => k.needsGrant
    | .unformatted => k == .format && f.request.isSome
    | .mounting => false
    | .parked => false

/-- The answer queue has a free place (R187). -/
def State.answerPlace (s : State) : Bool := s.link.answers.length < Config.answerPlaces

/-- The Payout Walker may carry out a walk unit (R145). -/
def State.walkerClaims (s : State) : Bool :=
  s.payout.run.state = .walking && s.payout.run.position < Config.merchants
    && s.payout.queue.length < Config.payoutPlaces && !s.payout.holdFlag

/-- The Expiry Sweep may carry out a sweep unit (R168). -/
def State.sweepClaims (s : State) : Bool := s.sweep.pass = .sweeping && !s.payout.holdFlag && s.clock.isSet

/-- The claims that stand (R176). -/
def State.claims (s : State) : Claimant → Bool
  | .requestEngine =>
    (match s.link.intake with
      | f :: _ => s.frameNeedsGrant f
      | [] => false) && s.answerPlace
  | .lapseWork => !s.hold.lapse.isEmpty
  | .periodController => s.period.cutPending = .waiting && s.clock.isSet
  | .payoutWalker => s.walkerClaims
  | .expirySweep => s.sweepClaims

/-- The rotation after the last holder (R176, R177). -/
def rotation : Claimant → List Claimant
  | .requestEngine => [.lapseWork, .periodController, .payoutWalker, .expirySweep, .requestEngine]
  | .lapseWork => [.periodController, .payoutWalker, .expirySweep, .requestEngine, .lapseWork]
  | .periodController => [.payoutWalker, .expirySweep, .requestEngine, .lapseWork, .periodController]
  | .payoutWalker => [.expirySweep, .requestEngine, .lapseWork, .periodController, .payoutWalker]
  | .expirySweep => [.requestEngine, .lapseWork, .periodController, .payoutWalker, .expirySweep]

/-- The store may be granted to a claimant: READY to any, UNFORMATTED to the Request Engine (for FORMAT) alone, and to
none once POWER_GOOD has fallen (R176, R183). -/
def State.grantable (s : State) (c : Claimant) : Bool :=
  !s.store.parking && (s.store.state = .ready || (s.store.state = .unformatted && c = .requestEngine))

/-- The claimant the arbiter would grant the free store to (R177). -/
def State.grantee (s : State) : Option Claimant :=
  (rotation s.arbiter.lastHolder).find? (fun c => s.claims c && s.grantable c)

/-- The Request Engine takes the oldest frame of the intake queue (R187). -/
def State.takeOldest (s : State) : State :=
  { s with link := { s.link with intake := s.link.intake.tail }, engine := ⟨s.link.intake.head?, false⟩ }

/-- The store granted to a claimant. Granted to the Request Engine, it takes the oldest frame (R187). -/
def State.grant (s : State) (c : Claimant) : State :=
  if c = .requestEngine then { s.takeOldest with arbiter := ⟨some c, s.arbiter.lastHolder⟩ }
  else { s with arbiter := ⟨some c, s.arbiter.lastHolder⟩ }

/-- The arbiter acts: when the store is free and a claim stands, it is granted (R177). -/
def State.arbitrate (s : State) : State :=
  match s.arbiter.holder with
  | some _ => s
  | none =>
    match s.grantee with
    | none => s
    | some c => s.grant c

/-- A unit of work completes. The holder gives the store up unless it `keeps` it for a burst; minute ticks that
waited for the unit are taken; the arbiter acts (R66, R177, R178). -/
def State.completeUnit (s : State) (keeps : Bool) : State :=
  let s := if keeps then s else
    { s with arbiter := ⟨none, s.arbiter.holder.getD s.arbiter.lastHolder⟩ }
  s.takeTicks.arbitrate

/-! ### The Request Engine -/

/-- An answer joins the tail of the answer queue (R187). -/
def State.answer (s : State) (f : Frame) (r : Reply) : State :=
  { s with link := { s.link with answers := s.link.answers ++ [answerFrame f r] } }

/-- The request in progress completes: its answer joins the queue, or is discarded when LINK_RESET asked for it
(R187, R189), and its unit of work completes. -/
def State.completeRequest (s : State) (f : Frame) (r : Reply) : State :=
  let s := if s.engine.discard then s else s.answer f r
  ({ s with engine := ⟨none, false⟩ }).completeUnit false

/-- The Request Engine is idle and may take a frame that needs no grant: there is a place for its answer, and the store is not
PARKED (R175, R183, R187). A park that waits for a unit leaves the store state as it is, and such a frame is still served. -/
def State.mayTake (s : State) : Bool :=
  s.engine.current.isNone && s.answerPlace && s.store.state ≠ .parked

/-- The Request Engine's service of one frame: the request in progress, when the frame taken under the grant is one
that `takes` accepts, else the oldest frame of the intake queue, when it is such a frame, needs no grant and may be
taken. `work` gives the answer and the state after the request. When neither stands, the command comes at a
moment at which the engine does not serve such a frame, and nothing happens (DESIGN CHOICE, log entry 3). -/
def State.serve (s : State) (takes : Frame → Bool) (work : Frame → State → Reply × State) : State :=
  match s.engine.current with
  | some f =>
    if takes f && s.arbiter.holder = some .requestEngine then
      let r := work f s
      r.2.completeRequest f r.1
    else s
  | none =>
    match s.link.intake with
    | [] => s
    | f :: rest =>
      if takes f && !s.frameNeedsGrant f && s.mayTake then
        let r := work f { s with link := { s.link with intake := rest } }
        (r.2.answer f r.1).arbitrate
      else s

/-- A frame is of this kind. -/
def Frame.isKind (k : Kind) (f : Frame) : Bool := kindOf f.kind == some k

/-- A frame is of this kind, and its operation byte is this one or names no operation of the kind (a malformed frame,
which is answered whichever of the kind's rows serves it). -/
def Frame.isOperation (k : Kind) (op last : Nat) (f : Frame) : Bool :=
  f.isKind k && (match leadingByte f.body with
    | some o => o == op || last < o
    | none => true)

/-- The service of a request that is well formed, given by `unit`; a malformed frame is refused with BAD_REQUEST
before any other test (R26, R190). -/
def wellFormedOr (unit : Request → State → Reply × State) (f : Frame) (s : State) : Reply × State :=
  match f.request with
  | none => (refuse .badRequest, s)
  | some r => unit r s

/-- A request's own work, tested for NOT_READY first (R25, R61, R175). -/
def whenReady (work : State → Reply × State) (s : State) : Reply × State :=
  if s.store.state = .ready then work s else (refuse .notReady, s)

/-- A request's own work, tested for NOT_READY and then CLOCK_UNSET (R25, R61, R78). -/
def whenSet (work : State → Reply × State) (s : State) : Reply × State :=
  whenReady (fun s => if s.clock.isSet then work s else (refuse .clockUnset, s)) s

end Sys2Proof.Machine
end

