-- ==== Sys2Proof/Machine/CardRequests.lean ====
section
/-! DEFINITION. ISSUE, LOAD, INQUIRE, SUSPEND, RESUME, CLOSE, REPLACE and WATCH_SET, and the front checks that every
card-naming request passes (chapter 2). -/

namespace Sys2Proof.Machine

/-! ### The front checks (R25, R45, R46) -/

/-- The watch entries that hold a number (R45). -/
def State.watchMatches (s : State) (number : Nat) : List Nat :=
  (s.watch.filter (fun e => e.2.number = number)).map (·.1)

/-- A card number compared with the watch list: each match raises WATCH_HIT and is recorded (R45). -/
def State.compareWatch (s : State) (number : Nat) : State :=
  (s.watchMatches number).foldl State.recordWatchHit s

/-- A card number stands in a DECLINE entry (R46). -/
def State.declined (s : State) (number : Nat) : Bool :=
  s.watch.any (fun e => e.2.number = number && e.2.action = .decline)

/-- Steps 2 to 5 of R25 for a request that carries these card numbers: store state, clock, number check, watch list.
What follows sees the state with the watch matches recorded, and a refusal keeps them (R29). -/
def cardFront (numbers : List Nat) (rest : State → Reply × State) : State → Reply × State :=
  whenSet (fun s =>
    if numbers.all validNumber then
      let w := numbers.foldl State.compareWatch s
      if numbers.any s.declined then (refuse .watched, w) else rest w
    else (refuse .badNumber, s))

/-- Steps 8 and 9 of R25: the card found in the directory, after lazy expiry. `rest` is given the slot, the expired
card, and the state with the expiry's postings made; a refusal answers from the state before them (R22, R29). -/
def withCard (number : Nat) (s : State) (rest : Nat → Card → State → Reply × State) : Reply × State :=
  match s.lookup number with
  | none => (refuse .noCard, s)
  | some (slot, c) => rest slot (c.expire s.today) (s.postAll (lotsPostings s.today c.lots))

/-- A merchant index lies in its range (R27). -/
def indexInRange (i : Nat) : Bool := i < Config.merchants

/-- A merchant is ACTIVE (R28). -/
def State.isActive (s : State) (i : Nat) : Bool := (s.merchant i).state = .active

/-- A promotional expiry day lies in its range: today to today + 3,650, stopping at the last day (R27). -/
def promoDayInRange (today expiry : Nat) : Bool :=
  today ≤ expiry && expiry ≤ min (today + Config.promoDaysAhead) Config.dayMax

/-- An amount of a card request: 1 to 1,000,000 cents (R27, R52, R87). -/
def amountInRange (a : Nat) : Bool := 1 ≤ a && a ≤ Config.amountMax

/-! ### ISSUE (R30 to R32) -/

/-- The promotional amount of an ISSUE, 0 when there is none. -/
def promoAmount : Option PromoIssue → Nat
  | none => 0
  | some q => q.amount

/-- The fields of an ISSUE lie in their ranges (R27). -/
def issueInRange (today merchant paid : Nat) (promo : Option PromoIssue) : Bool :=
  indexInRange merchant && paid ≤ Config.amountMax && 1 ≤ paid + promoAmount promo
    && (match promo with
      | none => true
      | some q => amountInRange q.amount && indexInRange q.sponsor && promoDayInRange today q.expiry)

/-- The lots of a new card: the PROMO lot first, then the PAID lot (R31). -/
def issueLots (key : LotKey) (paid : Nat) (promo : Option PromoIssue) : List Lot :=
  (match promo with
    | none => []
    | some q => [⟨promoKey q.sponsor q.expiry, q.amount, 0⟩])
  ++ (if paid = 0 then [] else [⟨key, paid, 0⟩])

/-- The postings of an ISSUE (R32). -/
def issuePostings (merchant paid : Nat) (promo : Option PromoIssue) : List Posting :=
  (if paid = 0 then [] else [.sold merchant paid, .paidUp paid])
  ++ (match promo with
    | none => []
    | some q => [.promoUp q.amount, .sponsoredUp q.sponsor q.amount])

/-- ISSUE, a well-formed request (R25, R30 to R32). -/
def issueUnit (number merchant paid : Nat) (promo : Option PromoIssue) : State → Reply × State :=
  cardFront [number] (fun s =>
    if !issueInRange s.clock.day merchant paid promo then (refuse .badValue, s)
    else if !s.isActive merchant || !(match promo with
        | none => true
        | some q => s.isActive q.sponsor) then (refuse .merchantInactive, s)
    else if (tableFind s.cards.directory number).isSome then (refuse .duplicate, s)
    else
      let slot := tableLowestFree s.cards.slots 0
      if Config.cardSlots ≤ slot then (refuse .tableFull, s)
      else if s.cfg.cardLimit < paid + promoAmount promo then (refuse .limit, s)
      else
        let lots := issueLots (paidKey s.cfg.paidExpiryDays s.clock.day) paid promo
        let card : Card := ⟨number, .active, lots, 0, s.clock.day⟩
        (⟨.ok, field 4 (lotsValue lots) ++ field 2 lots.length⟩,
         (s.insertCard slot card).postAll (issuePostings merchant paid promo)))

/-! ### LOAD (R33, R34) -/

/-- The fields of a LOAD lie in their ranges (R27). -/
def loadInRange (today merchant amount : Nat) (promo : Option PromoLoad) : Bool :=
  indexInRange merchant && amountInRange amount
    && (match promo with
      | none => true
      | some q => indexInRange q.sponsor && promoDayInRange today q.expiry)

/-- The key of a LOAD's credit (R33). -/
def loadKey (paidExpiryDays today : Nat) : Option PromoLoad → LotKey
  | none => paidKey paidExpiryDays today
  | some q => promoKey q.sponsor q.expiry

/-- The postings of a LOAD (R34). -/
def loadPostings (merchant amount : Nat) : Option PromoLoad → List Posting
  | none => [.sold merchant amount, .paidUp amount]
  | some q => [.promoUp amount, .sponsoredUp q.sponsor amount]

/-- The available of the lot with a key. -/
def availableOf (key : LotKey) (lots : List Lot) : Nat :=
  match lots.find? (fun l => l.key == key) with
  | some l => l.available
  | none => 0

/-- LOAD, a well-formed request (R25, R33, R34). -/
def loadUnit (number merchant amount : Nat) (promo : Option PromoLoad) : State → Reply × State :=
  cardFront [number] (fun s =>
    if !loadInRange s.clock.day merchant amount promo then (refuse .badValue, s)
    else if !s.isActive merchant || !(match promo with
        | none => true
        | some q => s.isActive q.sponsor) then (refuse .merchantInactive, s)
    else withCard number s (fun slot card e =>
      match card.state with
      | .suspended => (refuse .cardSuspended, s)
      | .closing => (refuse .cardClosing, s)
      | .active =>
        let key := loadKey s.cfg.paidExpiryDays s.clock.day promo
        if s.cfg.cardLimit < lotsValue card.lots + amount then (refuse .limit, s)
        else if lotsFull key card.lots then (refuse .lotsFull, s)
        else
          let lots := creditLots key amount card.lots
          (⟨.ok, field 4 (lotsValue lots) ++ field 4 (lotsAvailable lots) ++ field 2 lots.length
              ++ field 4 (availableOf key lots)⟩,
           (e.putCard slot { card with lots := lots, lastActivity := s.clock.day }).postAll
             (loadPostings merchant amount promo))))

/-! ### INQUIRE (R35, R36) -/

/-- A lot as INQUIRE gives it (R35). -/
def lotBytes (l : Lot) : List Byte :=
  field 1 l.key.kind.value ++ fieldBytes 2 l.key.sponsor ++ fieldBytes 2 l.key.expiry ++ field 4 l.available
    ++ field 4 l.held

/-- A hold as INQUIRE gives it (R36). -/
def holdBytes (h : Hold) : List Byte :=
  field 4 h.number ++ field 1 h.state.value ++ field 2 h.merchant ++ field 2 h.terminal ++ field 4 h.amount
    ++ fieldBytes 2 h.minutes ++ fieldBytes 4 h.basket

/-- The holds that name a slot, oldest first (R36). -/
def State.holdsOf (s : State) (slot : Nat) : List Hold := s.hold.holds.filter (fun h => h.slot = slot)

/-- The fields of an INQUIRE answer (R35). -/
def inquireBody (c : Card) (holds : List Hold) : List Byte :=
  field 1 c.state.value ++ listBytes (c.lots.map lotBytes) ++ field 4 (lotsAvailable c.lots)
    ++ field 4 (lotsHeld c.lots) ++ field 4 (lotsValue c.lots) ++ field 2 c.lastActivity ++ field 2 c.openHolds
    ++ listBytes (holds.map holdBytes)

/-- INQUIRE, a well-formed request (R25, R35, R36). -/
def inquireUnit (number : Nat) : State → Reply × State :=
  cardFront [number] (fun s => withCard number s (fun slot card e =>
    (⟨.ok, inquireBody card (s.holdsOf slot)⟩, e.putCard slot card)))

/-! ### SUSPEND and RESUME (R37, R38) -/

/-- SUSPEND and RESUME: the card's state becomes `target`, unless it is CLOSING. -/
def setCardState (target : CardState) (number : Nat) : State → Reply × State :=
  cardFront [number] (fun s => withCard number s (fun slot card e =>
    if card.state = .closing then (refuse .wrongState, s)
    else (⟨.ok, field 1 target.value⟩, e.putCard slot { card with state := target })))

/-! ### CLOSE (R39, R40) -/

/-- CLOSE, a well-formed request: its dispositions RETIRED and CLOSING are 0 and 1 (R25, R39, R40; log entry 7). -/
def closeUnit (number : Nat) : State → Reply × State :=
  cardFront [number] (fun s => withCard number s (fun slot card e =>
    if card.state = .closing then (refuse .wrongState, s)
    else if card.lots.any (fun l => 0 < l.available) then (refuse .notEmpty, s)
    else if card.openHolds = 0 then
      (⟨.ok, field 1 0 ++ fieldBytes 2 none ++ fieldBytes 4 none⟩, e.retireCard slot number)
    else
      (⟨.ok, field 1 1 ++ field 2 card.openHolds ++ field 4 (lotsHeld card.lots)⟩,
       e.putCard slot { card with state := .closing })))

/-! ### REPLACE (R41, R42) -/

/-- REPLACE, a well-formed request (R25, R41, R42). -/
def replaceUnit (old new : Nat) : State → Reply × State :=
  cardFront [old, new] (fun s => withCard old s (fun slot card e =>
    if (tableFind s.cards.directory new).isSome then (refuse .duplicate, s)
    else if card.state = .closing then (refuse .cardClosing, s)
    else if 0 < card.openHolds then (refuse .holdsOpen, s)
    else
      let card : Card := { card with number := new, state := .active }
      (⟨.ok, field 8 new ++ field 1 card.state.value ++ field 4 (lotsValue card.lots) ++ field 2 card.lots.length⟩,
       e.renameCard slot old card)))

/-! ### WATCH_SET (R44) -/

/-- A watch entry as WATCH_SET gives it: empty, or number and action (R44). -/
def watchEntryBytes : Option WatchEntry → List Byte
  | none => fieldBytes 8 none ++ fieldBytes 1 none
  | some w => field 8 w.number ++ field 1 w.action.value

/-- The answer of WATCH_SET: the entry written, and the whole list (R44). -/
def watchReply (entry : Nat) (s : State) : Reply × State :=
  (⟨.ok, field 2 entry ++ listBytes ((List.range Config.watchEntries).map
    (fun i => watchEntryBytes (tableFind s.watch i)))⟩, s)

/-- The entry a WRITE of a number acts on: the entry that holds the number, else the entry named (R44). -/
def State.watchTarget (s : State) (entry number : Nat) : Nat :=
  match s.watch.find? (fun e => e.2.number = number) with
  | some e => e.1
  | none => entry

/-- WATCH_SET with WRITE, a well-formed request (R44). -/
def watchWriteUnit (entry number action : Nat) : State → Reply × State :=
  whenReady (fun s =>
    if !validNumber number then (refuse .badNumber, s)
    else if Config.watchEntries ≤ entry then (refuse .badValue, s)
    else match watchActionOf action with
      | none => (refuse .badValue, s)
      | some a =>
        let target := s.watchTarget entry number
        watchReply target { s with watch := tableInsert s.watch target ⟨number, a⟩ })

/-- WATCH_SET with CLEAR, a well-formed request (R44). -/
def watchClearUnit (entry : Nat) : State → Reply × State :=
  whenReady (fun s =>
    if Config.watchEntries ≤ entry then (refuse .badValue, s)
    else watchReply entry { s with watch := tableErase s.watch entry })

/-- WATCH_SET with LIST, a well-formed request (R44). -/
def watchListUnit (entry : Nat) : State → Reply × State :=
  whenReady (fun s => if Config.watchEntries ≤ entry then (refuse .badValue, s) else watchReply entry s)

/-! ### The rows -/

/-- ISSUE (R30). -/
def execIssue (s : State) : Host.Outcome State Fault Refusal :=
  .next (s.serve (Frame.isKind .issue) (wellFormedOr (fun r s => match r with
    | .issue n m p q => issueUnit n m p q s
    | _ => (refuse .badRequest, s))))

/-- LOAD (R33). -/
def execLoad (s : State) : Host.Outcome State Fault Refusal :=
  .next (s.serve (Frame.isKind .load) (wellFormedOr (fun r s => match r with
    | .load n m a q => loadUnit n m a q s
    | _ => (refuse .badRequest, s))))

/-- INQUIRE (R35). -/
def execInquire (s : State) : Host.Outcome State Fault Refusal :=
  .next (s.serve (Frame.isKind .inquire) (wellFormedOr (fun r s => match r with
    | .inquire n => inquireUnit n s
    | _ => (refuse .badRequest, s))))

/-- SUSPEND (R37). -/
def execSuspend (s : State) : Host.Outcome State Fault Refusal :=
  .next (s.serve (Frame.isKind .suspend) (wellFormedOr (fun r s => match r with
    | .suspend n => setCardState .suspended n s
    | _ => (refuse .badRequest, s))))

/-- RESUME (R38). -/
def execResume (s : State) : Host.Outcome State Fault Refusal :=
  .next (s.serve (Frame.isKind .resume) (wellFormedOr (fun r s => match r with
    | .resume n => setCardState .active n s
    | _ => (refuse .badRequest, s))))

/-- CLOSE (R39). -/
def execClose (s : State) : Host.Outcome State Fault Refusal :=
  .next (s.serve (Frame.isKind .close) (wellFormedOr (fun r s => match r with
    | .close n => closeUnit n s
    | _ => (refuse .badRequest, s))))

/-- REPLACE (R41). -/
def execReplace (s : State) : Host.Outcome State Fault Refusal :=
  .next (s.serve (Frame.isKind .replace) (wellFormedOr (fun r s => match r with
    | .replace o n => replaceUnit o n s
    | _ => (refuse .badRequest, s))))

/-- WATCH_SET with WRITE (R44). -/
def execWatchSetWrite (s : State) : Host.Outcome State Fault Refusal :=
  .next (s.serve (Frame.isOperation .watchSet 0 2) (wellFormedOr (fun r s => match r with
    | .watchWrite e n a => watchWriteUnit e n a s
    | _ => (refuse .badRequest, s))))

/-- WATCH_SET with CLEAR (R44). -/
def execWatchSetClear (s : State) : Host.Outcome State Fault Refusal :=
  .next (s.serve (Frame.isOperation .watchSet 1 2) (wellFormedOr (fun r s => match r with
    | .watchClear e => watchClearUnit e s
    | _ => (refuse .badRequest, s))))

/-- WATCH_SET with LIST (R44). -/
def execWatchSetList (s : State) : Host.Outcome State Fault Refusal :=
  .next (s.serve (Frame.isOperation .watchSet 2 2) (wellFormedOr (fun r s => match r with
    | .watchList e => watchListUnit e s
    | _ => (refuse .badRequest, s))))

end Sys2Proof.Machine
end

