-- ==== Sys2Proof/Machine/Holds.lean ====
section
/-! DEFINITION. AUTHORIZE, CAPTURE, RELEASE and SALE, the end of a hold, minute ticks as commands, and lapse work
(chapter 3; R80 and R81 of chapter 4 for the lapse of baskets). -/

namespace Sys2Proof.Machine

/-! ### Serial numbers, timers and lookups -/

/-- The number after a serial number (R50, R76). -/
def bumpSerial (n : Nat) : Nat := if Config.serialMax ≤ n then 1 else n + 1

/-- The first number from `n` on that no entry carries, passing over at most `k` carried ones (R50, R76). -/
def freeSerial (carried : List Nat) : Nat → Nat → Nat
  | 0, n => n
  | k + 1, n => if carried.contains n then freeSerial carried k (bumpSerial n) else n

/-- The minutes left a new hold or basket starts with (R56, R78). -/
def minutesApplied (holdMinutes : Nat) : Option Nat → Nat
  | none => holdMinutes
  | some m => if m = 0 then holdMinutes else min m Config.minutesMax

/-- The OPEN hold that carries a number (R50). -/
def HoldTable.openHold (t : HoldTable) (n : Nat) : Option Hold :=
  t.holds.find? (fun h => h.number = n && h.state = .opened)

/-- The OPEN basket that carries a number (R76). -/
def HoldTable.openBasket (t : HoldTable) (n : Nat) : Option Basket :=
  t.baskets.find? (fun b => b.number = n && b.state = .opened)

/-- What a request for `amount` cents gets from a card with `available` (R54): the outcome and the amount, or none for
INSUFFICIENT. -/
def amountDecided (available amount : Nat) (partialOk : Bool) : Option (Result × Nat) :=
  if amount ≤ available then some (.ok, amount)
  else if 0 < available && partialOk then some (.partialOk, available)
  else none

/-! ### AUTHORIZE (R52 to R57) -/

/-- The fields of an AUTHORIZE or SALE lie in their ranges (R52, R64). -/
def purchaseInRange (merchant terminal amount partialOk : Nat) : Bool :=
  indexInRange merchant && terminal ≤ 65535 && amountInRange amount && partialOk ≤ 1

/-- The basket tests of AUTHORIZE (R53, R79): the refusal, if there is one. -/
def basketRefusal (t : HoldTable) (merchant : Nat) : Option Nat → Option Result
  | none => none
  | some n =>
    match t.openBasket n with
    | none => some .unknownBasket
    | some b =>
      if b.merchant ≠ merchant then some .badValue
      else if Config.basketMembers ≤ b.members.length then some .basketFull
      else none

/-- A new hold joins the Hold Table, and the basket it names (R50, R57, R79). -/
def HoldTable.addHold (t : HoldTable) (h : Hold) : HoldTable :=
  { t with
    holds := t.holds ++ [h]
    holdSerial := bumpSerial h.number
    baskets := t.baskets.map (fun b =>
      if h.basket = some b.number then { b with members := b.members ++ [h.number] } else b) }

/-- The number the next hold receives (R50). -/
def HoldTable.nextHold (t : HoldTable) : Nat := freeSerial (t.holds.map (·.number)) t.holds.length t.holdSerial

/-- AUTHORIZE, a well-formed request (R25, R52 to R57). -/
def authorizeUnit (number merchant terminal amount partialOk : Nat) (minutes basket : Option Nat) :
    State → Reply × State :=
  cardFront [number] (fun s =>
    if !purchaseInRange merchant terminal amount partialOk || basket == some 0 then (refuse .badValue, s)
    else if !s.isActive merchant then (refuse .merchantInactive, s)
    else withCard number s (fun slot card e =>
      match card.state with
      | .suspended => (refuse .cardSuspended, s)
      | .closing => (refuse .cardClosing, s)
      | .active =>
        if Config.holdEntries ≤ s.hold.holds.length || Config.holdsPerCard ≤ card.openHolds then
          (refuse .holdsFull, s)
        else match basketRefusal s.hold merchant basket with
          | some r => (refuse r, s)
          | none =>
            let available := lotsAvailable card.lots
            match amountDecided available amount (partialOk == 1) with
            | none => (insufficient available, s)
            | some (result, a) =>
              let hold : Hold :=
                { number := s.hold.nextHold, state := .opened, slot := slot, merchant := merchant
                  terminal := terminal, amount := a, parts := partsOf a card.lots
                  minutes := if basket.isSome then none else some (minutesApplied s.cfg.holdMinutes minutes)
                  basket := basket }
              let lots := reserveLots a card.lots
              let e := e.putCard slot { card with lots := lots, openHolds := card.openHolds + 1 }
              let e := e.onMerchant merchant (fun m => { m with openHolds := m.openHolds + 1 })
              (⟨result, field 4 hold.number ++ field 4 a ++ fieldBytes 2 hold.minutes ++ fieldBytes 4 hold.basket
                  ++ field 4 (lotsAvailable lots)⟩,
               { e with hold := e.hold.addHold hold })))

/-! ### The end of a hold (R58) -/

/-- What the end of a hold took and returned. -/
structure EndReport where
  paid : Nat
  promo : Nat
  returned : Nat
  expired : Nat
  deriving DecidableEq, Repr

/-- The report of a hold's end from its split parts (R62). -/
def endReport (today : Option Nat) (parts : List PartEnd) : EndReport :=
  ⟨paidTaken parts, promoTaken parts, (parts.map (·.returned)).sum, (parts.map (PartEnd.expired today)).sum⟩

/-- The closing check (R17), and the card's record written: a CLOSING card whose open-hold count is 0 is retired when
its value is 0 and becomes ACTIVE otherwise. -/
def State.closingCheck (s : State) (slot : Nat) (c : Card) : State :=
  if c.state = .closing ∧ c.openHolds = 0 then
    if lotsValue c.lots = 0 then s.retireCard slot c.number else s.putCard slot { c with state := .active }
  else s.putCard slot c

/-- The card side of a hold's end: steps 1 to 5 and 7 of R58, with the fall of the card's open-hold count. -/
def State.endOnCard (s : State) (slot captured : Nat) (parts : List PartEnd) : State :=
  match s.cardAt slot with
  | none => s
  | some c =>
    (s.postAll (endPostings s.today parts c.lots)).closingCheck slot
      { c with
        lots := endLots s.today parts c.lots
        openHolds := c.openHolds - 1
        lastActivity := if captured = 0 then c.lastActivity else s.clock.day }

/-- A basket without a member that has left it (R58, step 6; R82). -/
def Basket.without (n : Nat) (b : Basket) : Basket := { b with members := b.members.filter (· ≠ n) }

/-- A hold entry becomes FREE: it leaves its basket's member list, and a LAPSING basket left without members becomes
FREE too (R58, step 6; R81). -/
def HoldTable.freeHold (t : HoldTable) (h : Hold) : HoldTable :=
  { t with
    holds := t.holds.filter (fun e => e.number ≠ h.number)
    baskets := match h.basket with
      | none => t.baskets
      | some b =>
        (t.baskets.map (fun k => if k.number = b then k.without h.number else k)).filter
          (fun k => !(k.number = b && k.state = .lapsing && k.members.isEmpty)) }

/-- The end of a hold with a captured amount (R58), but for the capturing merchant's postings, which the request
makes. -/
def State.endHold (s : State) (h : Hold) (captured : Nat) : State :=
  let s := s.endOnCard h.slot captured (splitParts captured h.parts)
  let s := { s with hold := s.hold.freeHold h }
  s.onMerchant h.merchant (fun m => { m with openHolds := m.openHolds - 1 })

/-- What the end of a hold takes and returns, seen from the state before it. -/
def State.endReportOf (s : State) (h : Hold) (captured : Nat) : EndReport :=
  endReport s.today (splitParts captured h.parts)

/-- The disposition of the card in a slot (R62, R85). -/
def State.disposition (s : State) (slot : Nat) : Nat := dispositionValue ((s.cardAt slot).map (·.state))

/-! ### CAPTURE and RELEASE (R61 to R63) -/

/-- CAPTURE, a well-formed request (R61, R62). -/
def captureUnit (holdNumber amount : Nat) : State → Reply × State :=
  whenSet (fun s =>
    if Config.amountMax < amount then (refuse .badValue, s)
    else match s.hold.openHold holdNumber with
      | none => (refuse .unknownHold, s)
      | some h =>
        if h.basket.isSome then (refuse .wrongState, s)
        else if h.amount < amount then (refuse .exceedsHold, s)
        else
          let c := if amount = 0 then h.amount else amount
          let r := s.endReportOf h c
          let t := (s.endHold h c).postAll (capturePostings h.merchant c)
          (⟨.ok, field 4 h.number ++ field 4 c ++ field 4 r.paid ++ field 4 r.promo ++ field 4 r.returned
              ++ field 4 r.expired ++ field 1 (t.disposition h.slot)⟩, t))

/-- RELEASE, a well-formed request (R63). -/
def releaseUnit (holdNumber : Nat) : State → Reply × State :=
  whenSet (fun s =>
    match s.hold.openHold holdNumber with
    | none => (refuse .unknownHold, s)
    | some h =>
      let r := s.endReportOf h 0
      let t := s.endHold h 0
      (⟨.ok, field 4 h.number ++ field 4 r.returned ++ field 4 r.expired ++ field 1 (t.disposition h.slot)⟩, t))

/-! ### SALE (R64, R65) -/

/-- The parts a SALE draws, all of them taken. -/
def saleParts (amount : Nat) (lots : List Lot) : List PartEnd :=
  (partsOf amount lots).map (fun p => ⟨p.key, p.cents, 0⟩)

/-- SALE, a well-formed request (R25, R64, R65). -/
def saleUnit (number merchant terminal amount partialOk : Nat) : State → Reply × State :=
  cardFront [number] (fun s =>
    if !purchaseInRange merchant terminal amount partialOk then (refuse .badValue, s)
    else if !s.isActive merchant then (refuse .merchantInactive, s)
    else withCard number s (fun slot card e =>
      match card.state with
      | .suspended => (refuse .cardSuspended, s)
      | .closing => (refuse .cardClosing, s)
      | .active =>
        let available := lotsAvailable card.lots
        match amountDecided available amount (partialOk == 1) with
        | none => (insufficient available, s)
        | some (result, a) =>
          let parts := saleParts a card.lots
          let lots := dropEmpty (drawLots a card.lots)
          (⟨result, field 4 a ++ field 4 (paidTaken parts) ++ field 4 (promoTaken parts)
              ++ field 4 (lotsAvailable lots)⟩,
           (e.putCard slot { card with lots := lots, lastActivity := s.clock.day }).postAll
             (parts.flatMap (PartEnd.postings s.today) ++ capturePostings merchant a))))

/-! ### Minute ticks as commands (R66, R80) -/

/-- The Hold Table takes one minute tick that the clock handed on, when no unit of work is in progress (R66). -/
def State.takeTick (s : State) : State :=
  if 0 < s.hold.ticksDue ∧ s.arbiter.holder = none then
    ({ s with hold := { s.hold.tick with ticksDue := s.hold.ticksDue - 1 } }).arbitrate
  else s

/-- Some hold of its own timer lapses at the next tick. -/
def HoldTable.someHoldLapses (t : HoldTable) : Bool := t.holds.any Hold.lapsesAlone

/-- Some basket lapses at the next tick. -/
def HoldTable.someBasketLapses (t : HoldTable) : Bool := t.baskets.any Basket.lapsesNext

/-! ### Lapse work (R69, R70, R81) -/

/-- The hold entry that carries a number, whatever its state. -/
def HoldTable.holdEntry (t : HoldTable) (n : Nat) : Option Hold := t.holds.find? (fun h => h.number = n)

/-- A unit of lapse work on a hold: it ends with nothing captured (R70). -/
def State.lapseHold (s : State) (n : Nat) : State :=
  match s.hold.holdEntry n with
  | none => s
  | some h => s.endHold h 0

/-- A unit of lapse work on an empty lapsing basket: the basket becomes FREE (R81). -/
def State.lapseBasket (s : State) (n : Nat) : State :=
  { s with hold := { s.hold with baskets := s.hold.baskets.filter (fun b => b.number ≠ n) } }

/-- The lapse list without its oldest item. -/
def State.dropLapse (s : State) : State := { s with hold := { s.hold with lapse := s.hold.lapse.tail } }

/-! ### The rows -/

/-- AUTHORIZE (R52). -/
def execAuthorize (s : State) : Host.Outcome State Fault Refusal :=
  .next (s.serve (Frame.isKind .authorize) (wellFormedOr (fun r s => match r with
    | .authorize n m t a p mi b => authorizeUnit n m t a p mi b s
    | _ => (refuse .badRequest, s))))

/-- CAPTURE (R61). -/
def execCapture (s : State) : Host.Outcome State Fault Refusal :=
  .next (s.serve (Frame.isKind .capture) (wellFormedOr (fun r s => match r with
    | .capture h a => captureUnit h a s
    | _ => (refuse .badRequest, s))))

/-- RELEASE (R63). -/
def execRelease (s : State) : Host.Outcome State Fault Refusal :=
  .next (s.serve (Frame.isKind .release) (wellFormedOr (fun r s => match r with
    | .release h => releaseUnit h s
    | _ => (refuse .badRequest, s))))

/-- SALE (R64). -/
def execSale (s : State) : Host.Outcome State Fault Refusal :=
  .next (s.serve (Frame.isKind .sale) (wellFormedOr (fun r s => match r with
    | .sale n m t a p => saleUnit n m t a p s
    | _ => (refuse .badRequest, s))))

/-- MINUTE_TICK: the Hold Table takes a tick that is due (R66). -/
def execMinuteTick (s : State) : Host.Outcome State Fault Refusal := .next s.takeTick

/-- HOLD_LAPSE: the tick at which a hold's minutes left reach 0, the event inside which the hold lapses (R66; log
entry 5). -/
def execHoldLapse (s : State) : Host.Outcome State Fault Refusal :=
  .next (if s.hold.someHoldLapses then s.takeTick else s)

/-- BASKET_LAPSE: the tick at which a basket's minutes left reach 0, the event inside which the basket lapses (R80;
log entry 5). -/
def execBasketLapse (s : State) : Host.Outcome State Fault Refusal :=
  .next (if s.hold.someBasketLapses then s.takeTick else s)

/-- LAPSE_WORK: the unit granted to lapse work, on a hold (R70). -/
def execLapseWork (s : State) : Host.Outcome State Fault Refusal :=
  .next (match s.arbiter.holder, s.hold.lapse with
    | some .lapseWork, .hold n :: _ => ((s.lapseHold n).dropLapse).completeUnit false
    | _, _ => s)

/-- EMPTY_BASKET_LAPSE: the unit granted to lapse work, on an empty lapsing basket (R81). -/
def execEmptyBasketLapse (s : State) : Host.Outcome State Fault Refusal :=
  .next (match s.arbiter.holder, s.hold.lapse with
    | some .lapseWork, .basket n :: _ => ((s.lapseBasket n).dropLapse).completeUnit false
    | _, _ => s)

end Sys2Proof.Machine
end

