-- ==== Sys2Proof/Machine/Baskets.lean ====
section
/-! DEFINITION. BASKET_OPEN, BASKET_CAPTURE, BASKET_RELEASE, REFUND and TERMINAL_CLEAR (chapter 4). -/

namespace Sys2Proof.Machine

/-! ### BASKET_OPEN (R76, R78) -/

/-- The number the next basket receives (R76). A number that a basket still carries is passed over when the next basket is
opened, as R50 says of holds, and not as the counter advances (DEDUCED, log entry 26). -/
def HoldTable.nextBasket (t : HoldTable) : Nat :=
  freeSerial (t.baskets.map (·.number)) t.baskets.length t.basketSerial

/-- BASKET_OPEN, a well-formed request (R78). -/
def basketOpenUnit (merchant terminal : Nat) (minutes : Option Nat) : State → Reply × State :=
  whenSet (fun s =>
    if !(indexInRange merchant && terminal ≤ 65535) then (refuse .badValue, s)
    else if !s.isActive merchant then (refuse .merchantInactive, s)
    else if Config.basketEntries ≤ s.hold.baskets.length then (refuse .basketFull, s)
    else
      let n := s.hold.nextBasket
      let m := minutesApplied s.cfg.holdMinutes minutes
      (⟨.ok, field 4 n ++ field 2 m⟩,
       { s with hold := { s.hold with
           baskets := s.hold.baskets ++ [⟨n, .opened, merchant, terminal, [], m⟩]
           basketSerial := bumpSerial n } }))

/-! ### Ending the members of a basket -/

/-- The hold entries of member numbers, in join order. -/
def HoldTable.memberHolds (t : HoldTable) (members : List Nat) : List Hold := members.filterMap t.holdEntry

/-- The capture amount split over the members in join order (R84). -/
def shares : Nat → List Hold → List (Hold × Nat)
  | _, [] => []
  | c, h :: rest => (h, min c h.amount) :: shares (c - min c h.amount) rest

/-- Holds ended one after another, each with its captured amount (R84, R86). -/
def State.endHolds (s : State) (ends : List (Hold × Nat)) : State := ends.foldl (fun s e => s.endHold e.1 e.2) s

/-- What a list of ends takes and returns in all. -/
def totalReport (rs : List EndReport) : EndReport :=
  ⟨(rs.map (·.paid)).sum, (rs.map (·.promo)).sum, (rs.map (·.returned)).sum, (rs.map (·.expired)).sum⟩

/-- The reports of a list of ends. -/
def State.endReports (s : State) (ends : List (Hold × Nat)) : List EndReport :=
  ends.map (fun e => s.endReportOf e.1 e.2)

/-- A basket entry becomes FREE. -/
def State.freeBasket (s : State) (n : Nat) : State :=
  { s with hold := { s.hold with baskets := s.hold.baskets.filter (fun b => b.number ≠ n) } }

/-- The sum of the amounts of holds. -/
def amountsOf (holds : List Hold) : Nat := (holds.map (·.amount)).sum

/-! ### BASKET_CAPTURE (R83 to R85) -/

/-- One member's entry in the answer of BASKET_CAPTURE (R85). -/
def memberBytes (t : State) (e : Hold × Nat) (r : EndReport) : List Byte :=
  field 4 e.1.number ++ field 4 e.2 ++ field 4 r.returned ++ field 4 r.expired ++ field 1 (t.disposition e.1.slot)

/-- BASKET_CAPTURE, a well-formed request (R83 to R85). -/
def basketCaptureUnit (basket amount : Nat) : State → Reply × State :=
  whenSet (fun s =>
    if basket = 0 ∨ Config.basketAmountMax < amount then (refuse .badValue, s)
    else match s.hold.openBasket basket with
      | none => (refuse .unknownBasket, s)
      | some b =>
        let holds := s.hold.memberHolds b.members
        if amountsOf holds < amount then (refuse .exceedsHold, s)
        else
          let c := if amount = 0 then amountsOf holds else amount
          let ends := shares c holds
          let reports := s.endReports ends
          let r := totalReport reports
          let t := ((s.endHolds ends).freeBasket basket).postAll (capturePostings b.merchant c)
          (⟨.ok, field 4 basket ++ field 4 c ++ field 4 r.paid ++ field 4 r.promo ++ field 4 r.returned
              ++ field 4 r.expired ++ listBytes ((ends.zip reports).map (fun e => memberBytes t e.1 e.2))⟩, t))

/-! ### BASKET_RELEASE (R86) -/

/-- The ends of a basket's members when the basket is released: each with nothing captured. -/
def State.releaseEnds (s : State) (b : Basket) : List (Hold × Nat) :=
  (s.hold.memberHolds b.members).map (fun h => (h, 0))

/-- A basket released: every member ended, and the basket FREE (R86). -/
def State.releaseBasket (s : State) (b : Basket) : State := (s.endHolds (s.releaseEnds b)).freeBasket b.number

/-- BASKET_RELEASE, a well-formed request (R86). -/
def basketReleaseUnit (basket : Nat) : State → Reply × State :=
  whenSet (fun s =>
    if basket = 0 then (refuse .badValue, s)
    else match s.hold.openBasket basket with
      | none => (refuse .unknownBasket, s)
      | some b =>
        let ends := s.releaseEnds b
        let r := totalReport (s.endReports ends)
        (⟨.ok, field 4 basket ++ field 2 ends.length ++ field 4 r.returned ++ field 4 r.expired⟩,
         s.releaseBasket b))

/-! ### REFUND (R87, R88) -/

/-- A merchant's refund room: open REDEEMED plus allowance less open REFUNDED, 0 when the latter is larger (R88, R99). -/
def Merchant.refundRoom (m : Merchant) : Nat := m.position.redeemed + m.allowance - m.position.refunded

/-- REFUND, a well-formed request (R25, R87, R88). -/
def refundUnit (number merchant terminal amount : Nat) : State → Reply × State :=
  cardFront [number] (fun s =>
    if !(indexInRange merchant && terminal ≤ 65535 && amountInRange amount) then (refuse .badValue, s)
    else if (s.merchant merchant).state = .unlisted then (refuse .merchantInactive, s)
    else withCard number s (fun slot card e =>
      if card.state = .closing then (refuse .cardClosing, s)
      else
        let m := s.merchant merchant
        let key := paidKey s.cfg.paidExpiryDays s.clock.day
        if m.position.redeemed + m.allowance < m.position.refunded + amount then (refuse .refundLimit, s)
        else if s.cfg.cardLimit < lotsValue card.lots + amount then (refuse .limit, s)
        else if lotsFull key card.lots then (refuse .lotsFull, s)
        else
          let lots := creditLots key amount card.lots
          let t := (e.putCard slot { card with lots := lots, lastActivity := s.clock.day }).postAll
            [.refunded merchant amount, .paidUp amount]
          (⟨.ok, field 4 (lotsValue lots) ++ field 4 (lotsAvailable lots) ++ field 2 lots.length
              ++ field 8 (t.merchant merchant).refundRoom⟩, t)))

/-! ### TERMINAL_CLEAR (R89) -/

/-- The OPEN baskets a terminal opened, in the order their numbers were assigned. -/
def HoldTable.terminalBaskets (t : HoldTable) (merchant terminal : Nat) : List Basket :=
  t.baskets.filter (fun b => b.state = .opened && b.merchant = merchant && b.terminal = terminal)

/-- The OPEN holds a terminal placed, in the order their numbers were assigned. -/
def HoldTable.terminalHolds (t : HoldTable) (merchant terminal : Nat) : List Hold :=
  t.holds.filter (fun h => h.state = .opened && h.merchant = merchant && h.terminal = terminal)

/-- The holds that the first pass of TERMINAL_CLEAR ends: the members of the terminal's baskets, in order (R89). -/
def State.clearedMembers (s : State) (merchant terminal : Nat) : List (Hold × Nat) :=
  (s.hold.terminalBaskets merchant terminal).flatMap s.releaseEnds

/-- The state after the first pass of TERMINAL_CLEAR (R89). -/
def State.clearBaskets (s : State) (merchant terminal : Nat) : State :=
  (s.hold.terminalBaskets merchant terminal).foldl State.releaseBasket s

/-- The holds that the second pass of TERMINAL_CLEAR ends, seen after the first (R89). -/
def State.clearedHolds (s : State) (merchant terminal : Nat) : List (Hold × Nat) :=
  (s.hold.terminalHolds merchant terminal).map (fun h => (h, 0))

/-- TERMINAL_CLEAR, a well-formed request (R89). -/
def terminalClearUnit (merchant terminal : Nat) : State → Reply × State :=
  whenSet (fun s =>
    if !(indexInRange merchant && terminal ≤ 65535) then (refuse .badValue, s)
    else
      let first := s.clearedMembers merchant terminal
      let t := s.clearBaskets merchant terminal
      let second := t.clearedHolds merchant terminal
      let r := totalReport (s.endReports (first ++ second))
      (⟨.ok, field 2 (first ++ second).length ++ field 2 (s.hold.terminalBaskets merchant terminal).length
          ++ centsField r.returned ++ centsField r.expired⟩, t.endHolds second))

/-! ### The rows -/

/-- BASKET_OPEN (R78). -/
def execBasketOpen (s : State) : Host.Outcome State Fault Refusal :=
  .next (s.serve (Frame.isKind .basketOpen) (wellFormedOr (fun r s => match r with
    | .basketOpen m t mi => basketOpenUnit m t mi s
    | _ => (refuse .badRequest, s))))

/-- BASKET_CAPTURE (R83). -/
def execBasketCapture (s : State) : Host.Outcome State Fault Refusal :=
  .next (s.serve (Frame.isKind .basketCapture) (wellFormedOr (fun r s => match r with
    | .basketCapture b a => basketCaptureUnit b a s
    | _ => (refuse .badRequest, s))))

/-- BASKET_RELEASE (R86). -/
def execBasketRelease (s : State) : Host.Outcome State Fault Refusal :=
  .next (s.serve (Frame.isKind .basketRelease) (wellFormedOr (fun r s => match r with
    | .basketRelease b => basketReleaseUnit b s
    | _ => (refuse .badRequest, s))))

/-- REFUND (R87). -/
def execRefund (s : State) : Host.Outcome State Fault Refusal :=
  .next (s.serve (Frame.isKind .refund) (wellFormedOr (fun r s => match r with
    | .refund n m t a => refundUnit n m t a s
    | _ => (refuse .badRequest, s))))

/-- TERMINAL_CLEAR (R89). -/
def execTerminalClear (s : State) : Host.Outcome State Fault Refusal :=
  .next (s.serve (Frame.isKind .terminalClear) (wellFormedOr (fun r s => match r with
    | .terminalClear m t => terminalClearUnit m t s
    | _ => (refuse .badRequest, s))))

end Sys2Proof.Machine
end

