-- ==== Sys2Proof/Machine/Merchants.lean ====
section
/-! DEFINITION. MERCHANT_SET, MERCHANT_REMOVE, MERCHANT_READ and CLOSED_READ (chapter 5), and SCHEDULE_STAGE and
SCHEDULE_READ (chapter 6). -/

namespace Sys2Proof.Machine

/-! ### Reading positions -/

/-- The eight sums of an open position, in the order of R101. -/
def positionBytes (p : Position) : List Byte :=
  field 6 p.sold ++ field 6 p.redeemed ++ field 6 p.refunded ++ field 6 p.sponsorCost ++ field 6 p.promoLapsed
    ++ field 6 p.breakage ++ field 8 p.feeUnits ++ field 6 p.captureCount

/-! ### MERCHANT_SET (R95 to R97) -/

/-- A merchant state that MERCHANT_SET may name (R95). -/
def namedState : Nat → Option MerchantState
  | 1 => some .active
  | 2 => some .suspended
  | _ => none

/-- The record MERCHANT_SET makes of an UNLISTED index (R96). For index 0, which is listed at all times, see R94. -/
def listedMerchant (index : Nat) (state : MerchantState) (schedule allowance payoutRef : Nat) : Merchant :=
  { Merchant.unlisted with
    state := state, schedule := if index = 0 then 0 else schedule, allowance := allowance, payoutRef := payoutRef }

/-- The record MERCHANT_SET makes of a listed index (R97): a schedule number other than the active one is staged, the
active one cancels what was staged, and for index 0 the schedule number is disregarded. -/
def updatedMerchant (index : Nat) (state : MerchantState) (schedule allowance payoutRef : Nat) (m : Merchant) :
    Merchant :=
  { m with
    state := state, allowance := allowance, payoutRef := payoutRef
    nextSchedule := if index = 0 ∨ schedule = m.schedule then none else some schedule }

/-- MERCHANT_SET, a well-formed request: its dispositions CREATED and UPDATED are 0 and 1 (R95 to R97). -/
def merchantSetUnit (index state schedule allowance payoutRef : Nat) : State → Reply × State :=
  whenReady (fun s =>
    match namedState state with
    | none => (refuse .badValue, s)
    | some st =>
      if !(indexInRange index && schedule < Config.schedules && allowance ≤ Config.allowanceMax) then
        (refuse .badValue, s)
      else if index = 0 ∧ st ≠ .active then (refuse .badValue, s)
      else
        let m := s.merchant index
        let new := if m.state = .unlisted then listedMerchant index st schedule allowance payoutRef
          else updatedMerchant index st schedule allowance payoutRef m
        (⟨.ok, field 1 (if m.state = .unlisted then 0 else 1) ++ field 1 new.state.value ++ field 2 new.schedule
            ++ fieldBytes 2 new.nextSchedule ++ field 4 new.allowance ++ field 4 new.payoutRef⟩,
         s.setMerchant index new))

/-! ### MERCHANT_REMOVE (R98) -/

/-- MERCHANT_REMOVE, a well-formed request: its dispositions REMOVED and NONE are 0 and 1 (R98). -/
def merchantRemoveUnit (index : Nat) : State → Reply × State :=
  whenReady (fun s =>
    if !indexInRange index || index = 0 then (refuse .badValue, s)
    else
      let m := s.merchant index
      if m.openHolds ≠ 0 ∨ m.position ≠ Position.zero ∨ m.sponsored ≠ 0 then (refuse .wrongState, s)
      else
        (⟨.ok, field 1 MerchantState.unlisted.value ++ field 1 (if m.state = .unlisted then 1 else 0)⟩,
         s.setMerchant index Merchant.unlisted))

/-! ### MERCHANT_READ and CLOSED_READ (R99, R100) -/

/-- The fields of a MERCHANT_READ answer (R99). -/
def merchantBody (m : Merchant) (period : Nat) : List Byte :=
  field 1 m.state.value ++ field 2 m.schedule ++ fieldBytes 2 m.nextSchedule ++ field 4 m.allowance
    ++ field 4 m.payoutRef ++ field 2 m.openHolds ++ field 6 m.sponsored ++ positionBytes m.position
    ++ field 8 m.refundRoom ++ field 2 period

/-- MERCHANT_READ, a well-formed request (R99). -/
def merchantReadUnit (index : Nat) : State → Reply × State :=
  whenReady (fun s =>
    if !indexInRange index then (refuse .badValue, s)
    else (⟨.ok, merchantBody (s.merchant index) s.period.number⟩, s))

/-- The fields of a CLOSED_READ answer (R100). -/
def closedBody (p : Snapshot) (c : ClosedPosition) : List Byte :=
  field 1 p.state.value ++ field 2 p.period ++ positionBytes c.position ++ field 6 c.fee ++ field 6 c.feeIncome
    ++ signedField 8 c.net ++ field 2 c.schedule ++ field 4 c.payoutRef ++ flagField c.listed

/-- CLOSED_READ, a well-formed request (R100). -/
def closedReadUnit (index : Nat) : State → Reply × State :=
  whenReady (fun s =>
    if !indexInRange index then (refuse .badValue, s)
    else if s.period.snapshot.state = .empty then (refuse .wrongState, s)
    else (⟨.ok, closedBody s.period.snapshot (s.period.snapshot.closedAt index)⟩, s))

/-! ### SCHEDULE_STAGE and SCHEDULE_READ (R111 to R113) -/

/-- A copy's values lie in their ranges (R111). -/
def Schedule.inRange (c : Schedule) : Bool :=
  c.fixedFee ≤ Config.fixedFeeMax && c.r0 ≤ Config.rateMax && c.r1 ≤ Config.rateMax && c.r2 ≤ Config.rateMax
    && c.r3 ≤ Config.rateMax && c.t1 ≤ Config.thresholdMax && c.t2 ≤ Config.thresholdMax
    && c.t3 ≤ Config.thresholdMax && c.cap ≤ Config.thresholdMax

/-- The fields of a schedule copy, each absent when the copy is (R109, R112, R113; log entry 6). -/
def scheduleBytes (c : Option Schedule) : List Byte :=
  fieldBytes 2 (c.map (·.fixedFee)) ++ fieldBytes 6 (c.map (·.t1)) ++ fieldBytes 6 (c.map (·.t2))
    ++ fieldBytes 6 (c.map (·.t3)) ++ fieldBytes 2 (c.map (·.r0)) ++ fieldBytes 2 (c.map (·.r1))
    ++ fieldBytes 2 (c.map (·.r2)) ++ fieldBytes 2 (c.map (·.r3)) ++ fieldBytes 6 (c.map (·.cap))

/-- SCHEDULE_STAGE once its tests are passed: its dispositions STAGED, REPLACED, WITHDRAWN and NONE are 0 to 3
(R112). -/
def stageReply (number : Nat) (copy : Option Schedule) (s : State) : Reply × State :=
  let present := (s.schedule number).staged.isSome
  let disposition := match copy with
    | some _ => if present then 1 else 0
    | none => if present then 2 else 3
  (⟨.ok, field 2 number ++ field 1 disposition ++ scheduleBytes copy⟩, s.stageSchedule number copy)

/-- SCHEDULE_STAGE with WRITE, a well-formed request (R111, R112). -/
def scheduleWriteUnit (number : Nat) (copy : Schedule) : State → Reply × State :=
  whenReady (fun s =>
    if !(number < Config.schedules) || !copy.inRange then (refuse .badValue, s)
    else stageReply number (some copy) s)

/-- SCHEDULE_STAGE with CLEAR, a well-formed request (R111, R112). -/
def scheduleClearUnit (number : Nat) : State → Reply × State :=
  whenReady (fun s =>
    if !(number < Config.schedules) then (refuse .badValue, s) else stageReply number none s)

/-- SCHEDULE_READ, a well-formed request (R113). -/
def scheduleReadUnit (number : Nat) : State → Reply × State :=
  whenReady (fun s =>
    if !(number < Config.schedules) then (refuse .badValue, s)
    else
      let e := s.schedule number
      (⟨.ok, field 2 number ++ scheduleBytes (some e.active) ++ scheduleBytes e.staged ++ field 2 s.period.number⟩, s))

/-! ### The rows -/

/-- MERCHANT_SET (R95). -/
def execMerchantSet (s : State) : Host.Outcome State Fault Refusal :=
  .next (s.serve (Frame.isKind .merchantSet) (wellFormedOr (fun r s => match r with
    | .merchantSet i st sc al pr => merchantSetUnit i st sc al pr s
    | _ => (refuse .badRequest, s))))

/-- MERCHANT_REMOVE (R98). -/
def execMerchantRemove (s : State) : Host.Outcome State Fault Refusal :=
  .next (s.serve (Frame.isKind .merchantRemove) (wellFormedOr (fun r s => match r with
    | .merchantRemove i => merchantRemoveUnit i s
    | _ => (refuse .badRequest, s))))

/-- MERCHANT_READ (R99). -/
def execMerchantRead (s : State) : Host.Outcome State Fault Refusal :=
  .next (s.serve (Frame.isKind .merchantRead) (wellFormedOr (fun r s => match r with
    | .merchantRead i => merchantReadUnit i s
    | _ => (refuse .badRequest, s))))

/-- CLOSED_READ (R100). -/
def execClosedRead (s : State) : Host.Outcome State Fault Refusal :=
  .next (s.serve (Frame.isKind .closedRead) (wellFormedOr (fun r s => match r with
    | .closedRead i => closedReadUnit i s
    | _ => (refuse .badRequest, s))))

/-- SCHEDULE_STAGE with WRITE (R112). -/
def execScheduleStageWrite (s : State) : Host.Outcome State Fault Refusal :=
  .next (s.serve (Frame.isOperation .scheduleStage 0 1) (wellFormedOr (fun r s => match r with
    | .scheduleWrite n c => scheduleWriteUnit n c s
    | _ => (refuse .badRequest, s))))

/-- SCHEDULE_STAGE with CLEAR (R112). -/
def execScheduleStageClear (s : State) : Host.Outcome State Fault Refusal :=
  .next (s.serve (Frame.isOperation .scheduleStage 1 1) (wellFormedOr (fun r s => match r with
    | .scheduleClear n => scheduleClearUnit n s
    | _ => (refuse .badRequest, s))))

/-- SCHEDULE_READ (R113). -/
def execScheduleRead (s : State) : Host.Outcome State Fault Refusal :=
  .next (s.serve (Frame.isKind .scheduleRead) (wellFormedOr (fun r s => match r with
    | .scheduleRead n => scheduleReadUnit n s
    | _ => (refuse .badRequest, s))))

end Sys2Proof.Machine
end

