-- ==== Sys2Proof/Machine/Periods.lean ====
section
/-! DEFINITION. The cut, the deferral and the period requests (chapter 7), with the fee close (R119 to R122). -/

namespace Sys2Proof.Machine

/-! ### The cut (R132) -/

/-- The closed copy of a merchant's position with its FEE: steps 1 and 2 of R132 for one index (R119 to R121). -/
def State.closedCopy (s : State) (i : Nat) (m : Merchant) : ClosedPosition :=
  { position := m.position
    fee := if i = 0 then 0 else feeOf (s.schedule m.schedule).active m.position
    feeIncome := 0
    net := 0
    schedule := m.schedule
    payoutRef := m.payoutRef
    listed := m.state ≠ .unlisted }

/-- The closed copies of every index that does not read as blank. -/
def State.closedCopies (s : State) : Table ClosedPosition :=
  (s.merchants.map (fun e => (e.1, s.closedCopy e.1 e.2))).filter (fun e => e.2 ≠ ClosedPosition.blank)

/-- The sum of the fees of the indexes from 1 on, exactly (R121). -/
def feeSum (t : Table ClosedPosition) : Nat := (t.map (fun e => if e.1 = 0 then 0 else e.2.fee)).sum

/-- The operator's FEE_INCOME written, held to its width (R121). -/
def withFeeIncome (t : Table ClosedPosition) : Table ClosedPosition :=
  tableSet ClosedPosition.blank t 0
    { tableGet ClosedPosition.blank t 0 with feeIncome := min (feeSum t) Config.sum48Max }

/-- NET written for every index, fitted to its width (R135). -/
def withNet (t : Table ClosedPosition) : Table ClosedPosition :=
  t.map (fun e => (e.1, { e.2 with net := clampNet (netExact e.2) }))

/-- Some NET lies outside its range (R135). -/
def netOutside (t : Table ClosedPosition) : Bool :=
  t.any (fun e => netExact e.2 < netMin || netMax < netExact e.2)

/-- The closed positions of the snapshot a cut makes: steps 1 to 3 of R132. -/
def State.closedPositions (s : State) : Table ClosedPosition := withNet (withFeeIncome s.closedCopies)

/-- FEE_INCOME or a NET passed its width in the cut (R121, R135). -/
def State.cutSaturates (s : State) : Bool :=
  Config.sum48Max < feeSum s.closedCopies || netOutside (withFeeIncome s.closedCopies)

/-- A merchant record after the cut: position zeroed, a staged schedule number made active (R97, R114, R132). -/
def Merchant.afterCut (m : Merchant) : Merchant :=
  { m with position := Position.zero, schedule := m.nextSchedule.getD m.schedule, nextSchedule := none }

/-- A fee schedule after the cut: a staged copy made active (R114). -/
def ScheduleEntry.afterCut (e : ScheduleEntry) : ScheduleEntry := ⟨e.staged.getD e.active, none⟩

/-- The counter reloaded from PERIOD_DAYS (R128). -/
def Period.reload (p : Period) (periodDays : Nat) : Period :=
  { p with counterValue := periodDays, counterState := if periodDays = 0 then .stopped else .running }

/-- The period number after a period number (R132). -/
def nextPeriod (n : Nat) : Nat := if Config.periodMax ≤ n then 1 else n + 1

/-- The period record after a cut: the snapshot filled and CLOSED, the new period opened, the counter reloaded, the
flag NONE (R132, steps 4, 5, 8 and 9). -/
def State.cutPeriod (s : State) : Period :=
  ({ s.period with
      number := nextPeriod s.period.number
      openDay := s.clock.day
      openingPaid := s.cards.paidOutstanding
      cutPending := .none
      snapshot :=
        { state := .closed
          period := s.period.number
          openDay := s.period.openDay
          cutDay := s.clock.day
          previousPaid := s.period.openingPaid
          thisPaid := s.cards.paidOutstanding
          thisPromo := s.cards.promoOutstanding
          closed := s.closedPositions } }).reload s.cfg.periodDays

/-- The cut (R132), and the event CUT_TAKEN delivered. -/
def State.takeCut (s : State) : State :=
  (({ s with
      period := s.cutPeriod
      merchants := tableMap Merchant.unlisted (fun _ m => m.afterCut) s.merchants
      schedules := tableMap ScheduleEntry.blank (fun _ e => e.afterCut) s.schedules }).raiseIf
    s.cutSaturates .saturated).deliver .cutTaken

/-- The deferral (R131), and the event CUT_DEFERRED delivered. -/
def State.deferCut (s : State) : State :=
  ({ s with period := { s.period with cutPending := .deferred } }).deliver .cutDeferred

/-- A unit of cut work: the cut when the snapshot is EMPTY, else the deferral (R130). -/
def State.cutWork (s : State) : State :=
  if s.period.snapshot.state = .empty then s.takeCut else s.deferCut

/-! ### Period requests (R137 to R139) -/

/-- A field that is present while the snapshot holds a period. -/
def Snapshot.fieldBytes (p : Snapshot) (w n : Nat) : List Byte :=
  Sys2Proof.Machine.fieldBytes w (if p.state = .empty then none else some n)

/-- PERIOD_CUT, a well-formed request (R137). -/
def periodCutUnit : State → Reply × State :=
  whenSet (fun s =>
    let t := s.requestCut
    let p := s.period.snapshot
    (⟨.ok, flagField (s.period.cutPending ≠ .none) ++ field 1 t.period.cutPending.value ++ field 1 p.state.value
        ++ p.fieldBytes 2 p.period ++ field 2 s.period.number⟩, t))

/-- The fields of a PERIOD_STATUS answer (R138). -/
def State.periodBody (s : State) : List Byte :=
  let p := s.period.snapshot
  field 2 s.period.number ++ field 2 s.period.openDay ++ field 6 s.period.openingPaid
    ++ field 6 s.cards.paidOutstanding ++ field 6 s.cards.promoOutstanding
    ++ field 1 s.period.counterState.value ++ field 2 s.period.counterValue ++ field 2 s.cfg.periodDays
    ++ field 1 s.period.cutPending.value ++ field 1 p.state.value
    ++ p.fieldBytes 2 p.period ++ p.fieldBytes 2 p.openDay ++ p.fieldBytes 2 p.cutDay
    ++ p.fieldBytes 6 p.previousPaid ++ p.fieldBytes 6 p.thisPaid ++ p.fieldBytes 6 p.thisPromo

/-- PERIOD_STATUS, a well-formed request (R138). -/
def periodStatusUnit : State → Reply × State := whenReady (fun s => (⟨.ok, s.periodBody⟩, s))

/-- PERIOD_RELEASE, a well-formed request (R139). -/
def periodReleaseUnit : State → Reply × State :=
  whenReady (fun s =>
    if s.period.snapshot.state ≠ .paid then (refuse .wrongState, s)
    else
      let flag : CutPending := if s.period.cutPending = .deferred then .waiting else s.period.cutPending
      (⟨.ok, field 2 s.period.snapshot.period ++ field 1 flag.value⟩,
       { s with period := { s.period with snapshot := Snapshot.blank, cutPending := flag } }))

/-! ### The rows -/

/-- PERIOD_CUT (R137). -/
def execPeriodCut (s : State) : Host.Outcome State Fault Refusal :=
  .next (s.serve (Frame.isKind .periodCut) (wellFormedOr (fun r s => match r with
    | .periodCut => periodCutUnit s
    | _ => (refuse .badRequest, s))))

/-- PERIOD_STATUS (R138). -/
def execPeriodStatus (s : State) : Host.Outcome State Fault Refusal :=
  .next (s.serve (Frame.isKind .periodStatus) (wellFormedOr (fun r s => match r with
    | .periodStatus => periodStatusUnit s
    | _ => (refuse .badRequest, s))))

/-- PERIOD_RELEASE (R139). -/
def execPeriodRelease (s : State) : Host.Outcome State Fault Refusal :=
  .next (s.serve (Frame.isKind .periodRelease) (wellFormedOr (fun r s => match r with
    | .periodRelease => periodReleaseUnit s
    | _ => (refuse .badRequest, s))))

/-- CUT_N_EDGE: a debounced falling edge requests a cut while CUT_LINE is ON, in every store state (R129). -/
def execCutNEdge (s : State) : Host.Outcome State Fault Refusal :=
  .next (if s.cfg.cutLine then s.requestCut.arbitrate else s)

/-- CUT: the unit granted to the Period Controller, a cut or a deferral (R130 to R132). -/
def execCut (s : State) : Host.Outcome State Fault Refusal :=
  .next (if s.arbiter.holder = some .periodController then s.cutWork.completeUnit false else s)

end Sys2Proof.Machine
end

