-- ==== Sys2Proof/Machine/Payouts.lean ====
section
/-! DEFINITION. The Payout Walker: walk units, the trailer, and the requests that start, read, abort, hold and resume
(chapter 8). -/

namespace Sys2Proof.Machine

/-! ### The walk (R145 to R148) -/

/-- The direction of a NET (R146). -/
def directionOf (net : Int) : Direction := if 0 < net then .credit else if net < 0 then .debit else .nil

/-- The payout record of a closed position (R146). -/
def payoutRecord (sequence index : Nat) (c : ClosedPosition) : PayoutRecord :=
  { sequence := sequence
    merchant := index
    payoutRef := c.payoutRef
    direction := directionOf c.net
    magnitude := c.net.natAbs
    fee := c.fee
    redeemed := c.position.redeemed
    refunded := c.position.refunded
    sold := c.position.sold
    sponsorCost := c.position.sponsorCost
    breakage := c.position.breakage
    feeIncome := c.feeIncome
    captureCount := c.position.captureCount }

/-- The walk unit makes no record of this closed position: not listed at the cut, and every sum, FEE, FEE_INCOME and
NET is 0 (R145). -/
def ClosedPosition.skipped (c : ClosedPosition) : Bool :=
  !c.listed && c.position = Position.zero && c.fee = 0 && c.feeIncome = 0 && c.net = 0

/-- The run record after a payout record of this NET is appended (R145). -/
def Run.counted (r : Run) (net : Int) : Run :=
  { r with
    recordCount := r.recordCount + 1
    credit := if 0 < net then r.credit + net.natAbs else r.credit
    debit := if net < 0 then r.debit + net.natAbs else r.debit
    net := r.net + net }

/-- The run record and the queue after the visit of the closed position at the run's position (R145). -/
def Payout.visit (p : Payout) (c : ClosedPosition) : Payout :=
  let p := if c.skipped then p else
    { p with
      run := p.run.counted c.net
      queue := p.queue ++ [.record (payoutRecord (p.run.recordCount + 1) p.run.position c)] }
  { p with run := { p.run with
      position := p.run.position + 1
      state := if Config.payoutPlaces ≤ p.queue.length then .stalled else .walking } }

/-- A walk unit (R145). -/
def State.walkUnit (s : State) : State :=
  if s.payout.run.state = .walking ∧ s.payout.run.position < Config.merchants then
    { s with payout := s.payout.visit (s.period.snapshot.closedAt s.payout.run.position) }
  else s

/-- The Payout Walker keeps the grant for its next unit: mode BURST, it may claim again, and no park is under way
(R147, R183). -/
def State.walkerKeeps (s : State) : Bool :=
  s.payout.run.mode = .burst && s.walkerClaims && !s.store.parking

/-- The trailer of a run (R148). -/
def trailerOf (r : Run) : Trailer := ⟨r.period, r.recordCount, r.credit, r.debit, r.net, r.previousPaid, r.thisPaid⟩

/-- The trailer may be appended: position 512, WALKING, hold flag clear, a free place, and the store in service (R148,
R154). -/
def State.trailerDue (s : State) : Bool :=
  s.payout.run.state = .walking && s.payout.run.position = Config.merchants && !s.payout.holdFlag
    && s.payout.queue.length < Config.payoutPlaces && s.store.state = .ready && !s.store.parking

/-- The trailer appended, the run DRAINING (R148). -/
def State.appendTrailer (s : State) : State :=
  { s with payout := { s.payout with
      run := { s.payout.run with state := .draining }
      queue := s.payout.queue ++ [.trailer (trailerOf s.payout.run)] } }

/-! ### PAYOUT_START (R143) -/

/-- PAYOUT_START, a well-formed request (R143). -/
def payoutStartUnit : State → Reply × State :=
  whenReady (fun s =>
    if s.period.snapshot.state ≠ .closed then (refuse .wrongState, s)
    else
      let t := s.startRun
      (⟨.ok, field 2 t.payout.run.period ++ field 1 t.payout.run.mode.value ++ flagField t.payout.holdFlag⟩, t))

/-! ### PAYOUT_READ (R150, R151) -/

/-- An entry of the payout queue as PAYOUT_READ gives it: entry kind RECORD 0 or TRAILER 1, then its fields (R146,
R148, R150). -/
def payoutEntryBytes : PayoutEntry → List Byte
  | .record r =>
    field 1 0 ++ field 2 r.sequence ++ field 2 r.merchant ++ field 4 r.payoutRef ++ field 1 r.direction.value
      ++ field 8 r.magnitude ++ field 6 r.fee ++ field 6 r.redeemed ++ field 6 r.refunded ++ field 6 r.sold
      ++ field 6 r.sponsorCost ++ field 6 r.breakage ++ field 6 r.feeIncome ++ field 6 r.captureCount
  | .trailer t =>
    field 1 1 ++ field 2 t.period ++ field 2 t.recordCount ++ field 8 t.credit ++ field 8 t.debit
      ++ signedField 8 t.net ++ field 6 t.previousPaid ++ field 6 t.thisPaid

/-- A queue entry is a trailer. -/
def PayoutEntry.isTrailer : PayoutEntry → Bool
  | .record _ => false
  | .trailer _ => true

/-- The run is complete: run record at zero, snapshot PAID, and PAYOUT_DONE delivered (R151). -/
def State.completeRun (s : State) : State :=
  ({ s with
    payout := { s.payout with run := Run.idle }
    period := { s.period with snapshot := { s.period.snapshot with state := .paid } } }).deliver .payoutDone

/-- The oldest entries removed from the payout queue, up to four; a STALLED run that loses one is WALKING again (R150),
and the removal of the trailer completes the run (R151). -/
def State.readQueue (s : State) : State :=
  let removed := s.payout.queue.take Config.payoutReadMost
  let t := { s with payout := { s.payout with
      queue := s.payout.queue.drop Config.payoutReadMost
      run := if s.payout.run.state = .stalled ∧ removed ≠ [] then { s.payout.run with state := .walking }
        else s.payout.run } }
  if removed.any PayoutEntry.isTrailer then t.completeRun else t

/-- PAYOUT_READ, a well-formed request (R150, R151). -/
def payoutReadUnit : State → Reply × State :=
  whenReady (fun s =>
    let t := s.readQueue
    (⟨.ok, listBytes ((s.payout.queue.take Config.payoutReadMost).map payoutEntryBytes)
        ++ field 1 t.payout.run.state.value ++ field 2 t.payout.queue.length⟩, t))

/-! ### PAYOUT_ABORT (R152) -/

/-- PAYOUT_ABORT, a well-formed request (R152). -/
def payoutAbortUnit : State → Reply × State :=
  whenReady (fun s =>
    if s.period.snapshot.state ≠ .paying then (refuse .wrongState, s)
    else
      let r := s.payout.run
      (⟨.ok, field 2 r.period ++ field 2 r.position ++ field 2 r.recordCount ++ field 2 s.payout.queue.length⟩,
       { s with
         payout := { s.payout with run := Run.idle, queue := [] }
         period := { s.period with snapshot := { s.period.snapshot with state := .closed } } }))

/-! ### WALKERS_HOLD and WALKERS_RESUME (R153) -/

/-- The hold flag written, and the answer of WALKERS_HOLD and WALKERS_RESUME (R153). -/
def setHoldFlag (b : Bool) : State → Reply × State :=
  whenReady (fun s =>
    (⟨.ok, flagField b ++ field 1 s.payout.run.state.value ++ field 2 s.payout.run.position
        ++ field 1 s.sweep.pass.value⟩,
     { s with payout := { s.payout with holdFlag := b } }))

/-! ### The rows -/

/-- PAYOUT_START (R143). -/
def execPayoutStart (s : State) : Host.Outcome State Fault Refusal :=
  .next (s.serve (Frame.isKind .payoutStart) (wellFormedOr (fun r s => match r with
    | .payoutStart => payoutStartUnit s
    | _ => (refuse .badRequest, s))))

/-- PAYOUT_READ (R150). -/
def execPayoutRead (s : State) : Host.Outcome State Fault Refusal :=
  .next (s.serve (Frame.isKind .payoutRead) (wellFormedOr (fun r s => match r with
    | .payoutRead => payoutReadUnit s
    | _ => (refuse .badRequest, s))))

/-- PAYOUT_ABORT (R152). -/
def execPayoutAbort (s : State) : Host.Outcome State Fault Refusal :=
  .next (s.serve (Frame.isKind .payoutAbort) (wellFormedOr (fun r s => match r with
    | .payoutAbort => payoutAbortUnit s
    | _ => (refuse .badRequest, s))))

/-- WALKERS_HOLD (R153). -/
def execWalkersHold (s : State) : Host.Outcome State Fault Refusal :=
  .next (s.serve (Frame.isKind .walkersHold) (wellFormedOr (fun r s => match r with
    | .walkersHold => setHoldFlag true s
    | _ => (refuse .badRequest, s))))

/-- WALKERS_RESUME (R153). -/
def execWalkersResume (s : State) : Host.Outcome State Fault Refusal :=
  .next (s.serve (Frame.isKind .walkersResume) (wellFormedOr (fun r s => match r with
    | .walkersResume => setHoldFlag false s
    | _ => (refuse .badRequest, s))))

/-- WALK_UNIT: the unit granted to the Payout Walker (R145, R147). -/
def execWalkUnit (s : State) : Host.Outcome State Fault Refusal :=
  .next (if s.arbiter.holder = some .payoutWalker then s.walkUnit.completeUnit s.walkUnit.walkerKeeps else s)

/-- TRAILER_APPEND (R148). -/
def execTrailerAppend (s : State) : Host.Outcome State Fault Refusal :=
  .next (if s.trailerDue then s.appendTrailer.arbitrate else s)

end Sys2Proof.Machine
end

