-- ==== Sys2Proof/Machine/Clocks.lean ====
section
/-! DEFINITION. The Business Clock's events, SET_CLOCK, day rolls and ROUTE_SET (chapter 9, sections 9.1 to 9.4, and
R127 of chapter 7). -/

namespace Sys2Proof.Machine

/-! ### Day rolls (R127, R158) -/

/-- A day roll reaches the period counter (R127): it counts down only when RUNNING and the store is READY, and requests
a cut when it comes to 0. -/
def State.countDay (s : State) : State :=
  if s.period.counterState = .running ∧ s.store.state = .ready then
    if s.period.counterValue ≤ 1 then
      ({ s with period := { s.period with counterValue := 0, counterState := .expired } }).requestCut
    else { s with period := { s.period with counterValue := s.period.counterValue - 1 } }
  else s

/-- A day roll that is due is made (R158): the day number, the period counter, and the event DAY_ROLL. -/
def State.takeRoll (s : State) : State :=
  if s.clock.rollDue then
    ((({ s with clock := { s.clock with day := min (s.clock.day + 1) Config.dayMax, rollDue := false } }).countDay).deliver
      .dayRoll).arbitrate
  else s

/-- The day roll that is due brings the counter from 1 to 0 (R127, R129). -/
def State.expiryDue (s : State) : Bool :=
  s.clock.rollDue && s.period.counterState = .running && s.store.state = .ready && s.period.counterValue ≤ 1

/-! ### Advances of the second (R157, R159) -/

/-- The second of day after an advance (R157). -/
def nextSecond (n : Nat) : Nat := if n + 1 < Config.secondsPerDay then n + 1 else 0

/-- The second of day advances (R157, R161). What the advance before made due and has not been taken is taken first; a
multiple of 60 makes a minute tick due, and ROLL_SECOND a day roll. -/
def State.advance (s : State) : State :=
  let s := s.takeTick.takeRoll
  let n := nextSecond s.clock.second
  { s with
    clock := { s.clock with second := n, rollDue := n = s.cfg.rollSecond }
    hold := { s.hold with ticksDue := if n % 60 = 0 then s.hold.ticksDue + 1 else s.hold.ticksDue } }

/-- The divider count written. -/
def State.setDivider (s : State) (n : Nat) : State := { s with clock := { s.clock with divider := n } }

/-- The passage from EXTERNAL to FALLBACK on the third silent divider second, which is the first advance in FALLBACK
(R159). -/
def State.fallBack (s : State) : State :=
  (({ s with clock := { s.clock with source := .fallback, divider := 3 } }).raise .clockFallback).advance

/-- The next divider second makes the passage to FALLBACK (R159). -/
def State.fallbackNext (s : State) : Bool :=
  s.clock.isSet && s.clock.source = .external && 2 ≤ s.clock.divider

/-- A TIMEREF edge while the clock is SET (R157, R159). In INTERNAL it only starts the divider count anew (R156; DEDUCED,
log entry 13). -/
def State.edge (s : State) : State :=
  match s.clock.source with
  | .external => (s.setDivider 0).advance
  | .fallback => { s with clock := { s.clock with source := .external, divider := 0 } }
  | .internal => s.setDivider 0

/-- A divider second while the clock is SET (R157, R159). -/
def State.dividerTick (s : State) : State :=
  match s.clock.source with
  | .external => if 2 ≤ s.clock.divider then s.fallBack else s.setDivider (s.clock.divider + 1)
  | .fallback => (s.setDivider (min (s.clock.divider + 1) 3)).advance
  | .internal => (s.setDivider (min (s.clock.divider + 1) 3)).advance

/-! ### SET_CLOCK (R160, R161) -/

/-- SET_CLOCK, a well-formed request (R160). A day roll that an earlier advance made due stands, and the load then
replaces the day (R161); a refusal leaves it due. -/
def setClockUnit (day second : Nat) : State → Reply × State :=
  whenReady (fun s =>
    let t := s.takeRoll
    if Config.dayMax < day ∨ Config.secondsPerDay ≤ second then (refuse .badValue, s)
    else if t.clock.isSet = true ∧ day < t.clock.day then (refuse .badValue, s)
    else
      (⟨.ok, field 2 day ++ field 4 second ++ field 1 (clockSetValue t.clock.isSet)⟩,
       { t with clock := { t.clock with day := day, second := second, isSet := true, divider := 0 } }))

/-! ### ROUTE_SET (R164) -/

/-- The sources of the route table, in its order (R162). -/
def eventSources : List EventSource := [.dayRoll, .cutTaken, .cutDeferred, .payoutDone, .sweepDone]

/-- The whole route table, as five pairs of source and destination (R164). That the pairs are a list of R190, with a count
byte of 5 before them, is DEDUCED (log entry 6). -/
def routesBody (r : Routes) : List Byte :=
  listBytes (eventSources.map (fun e => field 1 e.value ++ field 1 (r.of e).value))

/-- ROUTE_SET, a well-formed request (R164). The stored copy is written with the working copy. -/
def routeSetUnit (pair : Option (Nat × Nat)) : State → Reply × State :=
  whenReady (fun s =>
    match pair with
    | none => (⟨.ok, routesBody s.routes⟩, s)
    | some (source, destination) =>
      match eventSourceOf source, destinationOf destination with
      | some e, some d =>
        let t := { s with routes := s.routes.set e d, storedRoutes := s.storedRoutes.set e d }
        (⟨.ok, routesBody t.routes⟩, t)
      | _, _ => (refuse .badValue, s))

/-! ### The rows -/

/-- SET_CLOCK (R160). -/
def execSetClock (s : State) : Host.Outcome State Fault Refusal :=
  .next (s.serve (Frame.isKind .setClock) (wellFormedOr (fun r s => match r with
    | .setClock d n => setClockUnit d n s
    | _ => (refuse .badRequest, s))))

/-- ROUTE_SET (R164). -/
def execRouteSet (s : State) : Host.Outcome State Fault Refusal :=
  .next (s.serve (Frame.isKind .routeSet) (wellFormedOr (fun r s => match r with
    | .routeSet p => routeSetUnit p s
    | _ => (refuse .badRequest, s))))

/-- TIMEREF_EDGE: nothing while the clock is UNSET (R156, R157, R159). -/
def execTimerefEdge (s : State) : Host.Outcome State Fault Refusal :=
  .next (if s.clock.isSet then s.edge else s)

/-- DIVIDER_SECOND: nothing while the clock is UNSET (R156, R157, R159). -/
def execDividerSecond (s : State) : Host.Outcome State Fault Refusal :=
  .next (if s.clock.isSet then s.dividerTick else s)

/-- CLOCK_FALLBACK: the divider second that makes the passage from EXTERNAL to FALLBACK (R159; log entry 5). -/
def execClockFallback (s : State) : Host.Outcome State Fault Refusal :=
  .next (if s.fallbackNext then s.fallBack else s)

/-- DAY_ROLL: a day roll that is due is made (R158). -/
def execDayRoll (s : State) : Host.Outcome State Fault Refusal := .next s.takeRoll

/-- PERIOD_COUNTER_EXPIRY: the day roll at which the period counter comes to 0, the event inside which it expires
(R127; log entry 5). -/
def execPeriodCounterExpiry (s : State) : Host.Outcome State Fault Refusal :=
  .next (if s.expiryDue then s.takeRoll else s)

end Sys2Proof.Machine
end

