-- ==== Sys2Proof/Machine/Sweeps.lean ====
section
/-! DEFINITION. SWEEP_START, sweep units and visits (chapter 9, sections 9.5 to 9.7). -/

namespace Sys2Proof.Machine

/-! ### SWEEP_START (R166, R167) -/

/-- The disposition of a pass start, STARTED, PENDING and MERGED being 0, 1 and 2 (R166; log entry 7). -/
def startDisposition (p : Sweep) : Nat :=
  match p.pass with
  | .idle => 0
  | .sweeping => if p.passPending then 2 else 1

/-- SWEEP_START, a well-formed request (R167). -/
def sweepStartUnit : State → Reply × State :=
  whenSet (fun s =>
    let t := s.startPass
    (⟨.ok, field 1 (startDisposition s.sweep) ++ field 1 t.sweep.pass.value ++ field 4 t.sweep.position
        ++ field 1 (passPendingValue t.sweep.passPending)⟩, t))

/-! ### Visits (R170) -/

/-- The dormancy test of a visit, on the card after expiry (R170, step 2). -/
def State.dormant (s : State) (c : Card) : Bool :=
  c.state = .active && lotsValue c.lots = 0 && c.openHolds = 0 && s.cfg.dormantDays ≠ 0
    && (match s.today with
      | some t => c.lastActivity + s.cfg.dormantDays < t
      | none => false)

/-- A visit of a slot: expiry, then the dormancy test (R170). -/
def State.visit (s : State) (slot : Nat) : State :=
  match s.cardAt slot with
  | none => s
  | some c =>
    let e := c.expire s.today
    let t := s.postAll (lotsPostings s.today c.lots)
    if s.dormant e then t.retireCard slot e.number else t.putCard slot e

/-! ### Sweep units (R169, R171) -/

/-- The occupied slots a sweep unit visits, in ascending order: the pass's block of them at most (R169). -/
def State.sweepVisits (s : State) : List Nat :=
  ((s.cards.slots.filter (fun e => s.sweep.position ≤ e.1)).map (·.1)).take s.sweep.block

/-- The slot after the last slot a sweep unit examines (R169). -/
def State.sweepStop (s : State) : Nat :=
  if s.sweepVisits.length < s.sweep.block then Config.cardSlots
  else match s.sweepVisits.getLast? with
    | some slot => slot + 1
    | none => Config.cardSlots

/-- A sweep unit ends the pass: it examines slot 131,071 (R169, R171). -/
def State.sweepEnds (s : State) : Bool := Config.cardSlots ≤ s.sweepStop

/-- The end of a pass (R171): a pending pass begins, or the sweep becomes IDLE; SWEEP_DONE is delivered, and a start it
causes finds the sweep as that left it. -/
def State.endPass (s : State) : State :=
  (if s.sweep.passPending then s.beginPass
    else { s with sweep := { s.sweep with pass := .idle, position := 0 } }).deliver .sweepDone

/-- A sweep unit (R169 to R171). -/
def State.sweepUnit (s : State) : State :=
  let t := s.sweepVisits.foldl State.visit s
  if s.sweepEnds then t.endPass else { t with sweep := { t.sweep with position := s.sweepStop } }

/-- The Expiry Sweep keeps the grant for its next unit: mode BURST, the pass not ended, it may claim again, and no park
is under way (R168, R183). `t` is the state after the unit. -/
def State.sweepKeeps (s t : State) : Bool :=
  s.sweep.mode = .burst && !s.sweepEnds && t.sweepClaims && !t.store.parking

/-! ### The rows -/

/-- SWEEP_START (R167). -/
def execSweepStart (s : State) : Host.Outcome State Fault Refusal :=
  .next (s.serve (Frame.isKind .sweepStart) (wellFormedOr (fun r s => match r with
    | .sweepStart => sweepStartUnit s
    | _ => (refuse .badRequest, s))))

/-- SWEEP_UNIT: the unit granted to the Expiry Sweep (R169). -/
def execSweepUnit (s : State) : Host.Outcome State Fault Refusal :=
  .next (if s.arbiter.holder = some .expirySweep then s.sweepUnit.completeUnit (s.sweepKeeps s.sweepUnit) else s)

end Sys2Proof.Machine
end

