-- ==== Sys2Proof/Machine/Settings.lean ====
section
/-! DEFINITION. STATUS, STATUS_CLEAR, CONFIG and CONFIG_READ (chapter 11, sections 11.6 and 11.7). -/

namespace Sys2Proof.Machine

/-! ### STATUS and STATUS_CLEAR (R193, R194) -/

/-- The fields of a STATUS answer (R193). -/
def State.statusBody (s : State) : List Byte :=
  field 2 s.conditions.toNat ++ field 2 s.cfg.attentionMask.toNat ++ field 1 s.link.watchHits.toNat
    ++ field 1 s.link.resetCause.value ++ field 1 s.store.state.value
    ++ field 1 s.payout.run.state.value ++ field 2 s.payout.run.position
    ++ field 1 s.sweep.pass.value ++ field 4 s.sweep.position ++ field 1 (passPendingValue s.sweep.passPending)
    ++ flagField s.payout.holdFlag
    ++ field 1 (clockSetValue s.clock.isSet) ++ field 1 s.clock.source.value ++ field 2 s.clock.day
    ++ field 4 s.clock.second
    ++ field 2 s.link.intake.length ++ field 2 s.link.answers.length ++ field 2 s.payout.queue.length

/-- STATUS, a well-formed request (R193): it gives the reset cause once and changes nothing else. -/
def statusUnit (s : State) : Reply × State :=
  (⟨.ok, s.statusBody⟩, { s with link := { s.link with resetCause := .none } })

/-- STATUS_CLEAR, a well-formed request (R194). -/
def statusClearUnit (set : Nat) : State → Reply × State :=
  whenReady (fun s =>
    let t := s.clearConditions (BitVec.ofNat 16 set)
    (⟨.ok, field 2 t.conditions.toNat⟩, t))

/-! ### CONFIG and CONFIG_READ (R195, R196) -/

/-- Every setting, in the table's order (R195). -/
def settingsBody (c : Settings) : List Byte :=
  field 2 c.holdMinutes ++ field 4 c.cardLimit ++ field 2 c.paidExpiryDays ++ field 2 c.dormantDays
    ++ field 2 c.periodDays ++ field 1 (if c.cutLine then 1 else 0) ++ field 4 c.rollSecond
    ++ field 1 (if c.clockInternal then 1 else 0) ++ field 1 c.payoutMode.value ++ field 1 c.sweepMode.value
    ++ field 2 c.sweepBlock ++ field 2 c.attentionMask.toNat

/-- A numeric setting after a CONFIG: left when its field is absent, else clamped into its range (R195). -/
def clampOr (old lo hi : Nat) : Option Nat → Nat
  | none => old
  | some v => if v < lo then lo else if hi < v then hi else v

/-- DORMANT_DAYS after a CONFIG: 0, or clamped into 30 to 3,650 (R195). -/
def dormantOr (old : Nat) : Option Nat → Nat
  | none => old
  | some v => if v = 0 then 0 else clampOr old 30 3650 (some v)

/-- A two-valued setting after a CONFIG: 0 is the first name and 1 the second (R190, R195). -/
def switchOr (old : Bool) : Option Nat → Bool
  | none => old
  | some v => v == 1

/-- A walker mode after a CONFIG. -/
def modeOr (old : WalkMode) (v : Option Nat) : WalkMode := (v.bind walkModeOf).getD old

/-- Every enumerated setting that a CONFIG carries names a value; each has two (R195). -/
def ConfigFields.named (f : ConfigFields) : Bool :=
  [f.cutLine, f.clockSource, f.payoutMode, f.sweepMode].all (fun v => match v with
    | none => true
    | some n => n ≤ 1)

/-- The settings after an accepted CONFIG (R195). -/
def Settings.after (c : Settings) (f : ConfigFields) : Settings :=
  { holdMinutes := clampOr c.holdMinutes 1 Config.minutesMax f.holdMinutes
    cardLimit := clampOr c.cardLimit 1000 Config.amountMax f.cardLimit
    paidExpiryDays := clampOr c.paidExpiryDays 0 3650 f.paidExpiryDays
    dormantDays := dormantOr c.dormantDays f.dormantDays
    periodDays := clampOr c.periodDays 0 31 f.periodDays
    cutLine := switchOr c.cutLine f.cutLine
    rollSecond := clampOr c.rollSecond 0 (Config.secondsPerDay - 1) f.rollSecond
    clockInternal := switchOr c.clockInternal f.clockSource
    payoutMode := modeOr c.payoutMode f.payoutMode
    sweepMode := modeOr c.sweepMode f.sweepMode
    sweepBlock := clampOr c.sweepBlock 1 64 f.sweepBlock
    attentionMask := match f.attentionMask with
      | none => c.attentionMask
      | some v => BitVec.ofNat 16 v }

/-- The source state that CLOCK_SOURCE starts (R156, R159). -/
def sourceOf (internal : Bool) : ClockSource := if internal then .internal else .external

/-- The clock after a CONFIG: a change of CLOCK_SOURCE takes effect at once, with the divider count at 0 (R156, R159); the
source already in force leaves it as it is. -/
def Clock.afterConfig (k : Clock) (old new : Bool) : Clock :=
  if old = new then k else { k with source := sourceOf new, divider := 0 }

/-- CONFIG, a well-formed request (R195). -/
def configUnit (f : ConfigFields) : State → Reply × State :=
  whenReady (fun s =>
    if !f.named then (refuse .badValue, s)
    else
      let new := s.settings.after f
      (⟨.ok, settingsBody new⟩,
       { s with settings := new, clock := s.clock.afterConfig s.settings.clockInternal new.clockInternal }))

/-- CONFIG_READ, a well-formed request (R175, R196): the stored settings in READY, the defaults in UNFORMATTED. -/
def configReadUnit (s : State) : Reply × State :=
  match s.store.state with
  | .ready => (⟨.ok, settingsBody s.settings⟩, s)
  | .unformatted => (⟨.ok, settingsBody Settings.default⟩, s)
  | .mounting => (refuse .notReady, s)
  | .parked => (refuse .notReady, s)

/-! ### The rows -/

/-- STATUS (R193). -/
def execStatus (s : State) : Host.Outcome State Fault Refusal :=
  .next (s.serve (Frame.isKind .status) (wellFormedOr (fun r s => match r with
    | .status => statusUnit s
    | _ => (refuse .badRequest, s))))

/-- STATUS_CLEAR (R194). -/
def execStatusClear (s : State) : Host.Outcome State Fault Refusal :=
  .next (s.serve (Frame.isKind .statusClear) (wellFormedOr (fun r s => match r with
    | .statusClear c => statusClearUnit c s
    | _ => (refuse .badRequest, s))))

/-- CONFIG (R195). -/
def execConfig (s : State) : Host.Outcome State Fault Refusal :=
  .next (s.serve (Frame.isKind .config) (wellFormedOr (fun r s => match r with
    | .config f => configUnit f s
    | _ => (refuse .badRequest, s))))

/-- CONFIG_READ (R196). -/
def execConfigRead (s : State) : Host.Outcome State Fault Refusal :=
  .next (s.serve (Frame.isKind .configRead) (wellFormedOr (fun r s => match r with
    | .configRead => configReadUnit s
    | _ => (refuse .badRequest, s))))

end Sys2Proof.Machine
end

