-- ==== Sys2Proof/Machine/Stores.lean ====
section
/-! DEFINITION. FORMAT, the device reset, the mount, and the power-fail park (chapter 10, sections 10.4 to 10.7). -/

namespace Sys2Proof.Machine

/-! ### FORMAT (R182) -/

/-- Everything FORMAT writes, the store header last (R182). -/
def State.formatted (s : State) : State :=
  { s with
    cards := ⟨[], [], 0, 0⟩
    watch := []
    merchants := [(0, Merchant.operator)]
    schedules := []
    period := ⟨1, 0, 0, 1, .running, .none, Snapshot.blank⟩
    settings := Settings.default
    routes := Routes.default
    storedRoutes := Routes.default
    clock := { s.clock with source := .external }
    store := { s.store with headerValid := true, settingsRead := true } }

/-- The store becomes READY, and STORE_READY is raised (R173). -/
def State.becomeReady (s : State) : State := ({ s with store := { s.store with state := .ready } }).raise .storeReady

/-- FORMAT, a well-formed request (R175, R182). A park under way keeps the formatted store from READY (R182). -/
def formatUnit (s : State) : Reply × State :=
  match s.store.state with
  | .unformatted => (⟨.ok, []⟩, if s.store.parking then s.formatted else s.formatted.becomeReady)
  | .ready => (refuse .wrongState, s)
  | .mounting => (refuse .notReady, s)
  | .parked => (refuse .notReady, s)

/-! ### Device reset (R179) -/

/-- The reset cause a device reset sets (R193). -/
def resetCauseOf : ResetKind → ResetCause
  | .powerOn => .powerOn
  | .resetLine => .resetLine

/-- The store as the part starts (R173, R179, R180): PARKED when POWER_GOOD is low, else UNFORMATTED when the header is
invalid or is not read, else MOUNTING. The stored header itself is not written: one that is not read at this start may be
read at the next (R180). -/
def Store.started (t : Store) (headerReads : Bool) : Store :=
  if !t.powerGood then ⟨.parked, false, t.headerValid, .settings, false, t.powerGood⟩
  else if t.headerValid && headerReads then ⟨.mounting, false, true, .settings, false, t.powerGood⟩
  else ⟨.unformatted, false, t.headerValid, .settings, false, t.powerGood⟩

/-- A FORMAT holds the store: the Request Engine has taken it under the grant and not completed it (R182). -/
def State.formatting (s : State) : Bool :=
  s.store.state = .unformatted && (match s.engine.current with
    | some f => f.request == some .format
    | none => false)

/-- The stored header as a device reset finds it: a FORMAT that the reset cuts off leaves it invalid (R182). -/
def State.storeAtReset (s : State) : Store :=
  { s.store with headerValid := s.store.headerValid && !s.formatting }

/-- A device reset (R179): the volatile state takes its values, the stored records stay, and the part starts. -/
def State.deviceReset (s : State) (kind : ResetKind) (headerReads : Bool) : State :=
  { s with
    link := ⟨[], [], 0#16, 0#8, resetCauseOf kind, []⟩
    engine := ⟨none, false⟩
    arbiter := ⟨none, .expirySweep⟩
    store := s.storeAtReset.started headerReads
    hold := ⟨[], 1, [], 1, [], 0⟩
    period := { s.period with cutPending := .none }
    payout := ⟨Run.idle, [], false⟩
    sweep := ⟨.idle, 0, false, .interleaved, 16⟩
    clock := ⟨0, 0, false, .external, 0, false⟩
    routes := Routes.default }

/-! ### The mount (R180, R181) -/

/-- Step 1: the settings, the routes into the working copy, the source state; the directory is to be built afresh
(R180). The watch list has the one home. -/
def State.mountSettings (s : State) : State :=
  { s with
    store := { s.store with settingsRead := true }
    routes := s.storedRoutes
    clock := { s.clock with source := sourceOf s.settings.clockInternal }
    cards := { s.cards with directory := [] } }

/-- A lot whose held is returned to its available (R180). -/
def Lot.restored (l : Lot) : Lot := { l with available := l.available + l.held, held := 0 }

/-- Step 2 for one card: its number into the directory, held value returned, count 0, closing check (R17, R180). -/
def State.mountCard (s : State) (slot : Nat) : State :=
  match s.cardAt slot with
  | none => s
  | some c =>
    let c : Card := { c with lots := c.lots.map Lot.restored, openHolds := 0 }
    (s.insertCard slot c).closingCheck slot c

/-- The lots of every card. -/
def State.allLots (s : State) : List Lot := s.cards.slots.flatMap (fun e => e.2.lots)

/-- The value of the lots of one kind (R19). -/
def kindValue (kind : LotKind) (lots : List Lot) : Nat := lotsValue (lots.filter (fun l => l.key.kind == kind))

/-- The value of the PROMO lots of one sponsor (R103). -/
def sponsoredValue (sponsor : Nat) (lots : List Lot) : Nat :=
  lotsValue (lots.filter (fun l => l.key.kind == .promo && l.key.sponsor == some sponsor))

/-- The sponsors that lots name. -/
def lotSponsors (lots : List Lot) : List Nat := lots.filterMap (·.key.sponsor)

/-- Step 3 for one merchant: its sponsored outstanding written from the lots (R103, R180). -/
def State.mountSponsor (lots : List Lot) (s : State) (i : Nat) : State :=
  s.onMerchant i (fun m => { m with sponsored := min (sponsoredValue i lots) Config.sum48Max })

/-- Step 3: the totals and the sponsored outstandings from the lots, each set to its maximum when beyond it (R180,
R181). -/
def State.mountTotals (s : State) : State :=
  let lots := s.allLots
  let s := { s with
    cards := { s.cards with
      paidOutstanding := min (kindValue .paid lots) Config.sum48Max
      promoOutstanding := min (kindValue .promo lots) Config.sum48Max }
    merchants := tableMap Merchant.unlisted (fun _ m => { m with sponsored := 0 }) s.merchants }
  (lotSponsors lots).foldl (State.mountSponsor lots) s

/-- Some recomputed total or sponsored outstanding lies beyond its maximum (R181). -/
def State.mountSaturates (s : State) : Bool :=
  let lots := s.allLots
  Config.sum48Max < kindValue .paid lots || Config.sum48Max < kindValue .promo lots
    || (lotSponsors lots).any (fun i => Config.sum48Max < sponsoredValue i lots)

/-- Step 4: every merchant's open-hold count becomes 0 (R180). -/
def State.mountMerchants (s : State) : State :=
  { s with merchants := tableMap Merchant.unlisted (fun _ m => { m with openHolds := 0 }) s.merchants }

/-- Step 5: a PAYING snapshot becomes CLOSED (R180). -/
def State.mountSnapshot (s : State) : State :=
  if s.period.snapshot.state = .paying then
    { s with period := { s.period with snapshot := { s.period.snapshot with state := .closed } } }
  else s

/-- How far the mount has come, written. -/
def State.setMount (s : State) (m : MountStage) : State := { s with store := { s.store with mount := m } }

/-- The lowest occupied slot from a slot on. -/
def State.nextOccupied (s : State) (slot : Nat) : Option Nat :=
  (s.cards.slots.find? (fun e => slot ≤ e.1)).map (·.1)

/-- One step of the mount's own progress: a step of R180, or one card slot within step 2. -/
def State.mountStep (s : State) : State :=
  match s.store.mount with
  | .settings => s.mountSettings.setMount (.cards 0)
  | .cards k =>
    match s.nextOccupied k with
    | some slot => (s.mountCard slot).setMount (.cards (slot + 1))
    | none => s.setMount .totals
  | .totals => s.mountTotals.setMount .merchants
  | .merchants => s.mountMerchants.setMount .snapshot
  | .snapshot => s.mountSnapshot.setMount .finished
  | .finished => s

/-- Steps 1 to 5 of the mount, whole. They are repeatable, so that they may follow a part of themselves (R181). -/
def State.mountAll (s : State) : State :=
  let s := s.mountSettings
  (((s.cards.slots.map (·.1)).foldl State.mountCard s).mountTotals).mountMerchants.mountSnapshot.setMount .finished

/-- An EXPIRED counter makes the cut-pending flag WAITING at the mount's completion (R126, R181). That a flag which a CUT_N edge made
WAITING during the mount (R129) stays so with another counter, where R126 gives NONE or WAITING as the counter says, is DESIGN
CHOICE (log entry 27). -/
def State.requestExpiredCut (s : State) : State :=
  if s.period.counterState = .expired then { s with period := { s.period with cutPending := .waiting } } else s

/-- The mount completes (R181). -/
def State.completeMount (s : State) : State :=
  let s := s.mountAll
  s.becomeReady.requestExpiredCut.raiseIf s.mountSaturates .saturated

/-! ### The park (R183) -/

/-- The store becomes PARKED, and the frames in the intake queue are discarded (R183, steps 2 and 4). -/
def State.parked (s : State) : State :=
  { s with
    store := { s.store with state := .parked, parking := false }
    link := { s.link with intake := [] } }

/-- A fall of POWER_GOOD (R183): with a unit in progress the park waits for it, with the intake queue as it is until the store
is PARKED, else the store is PARKED at once. In PARKED, and in a park under way, a further fall changes nothing. -/
def State.startPark (s : State) : State :=
  if s.store.state = .parked ∨ s.store.parking = true then s
  else match s.arbiter.holder with
    | none => s.parked
    | some _ => { s with store := { s.store with parking := true } }

/-- The level of the POWER_GOOD input. -/
def State.setPowerGood (s : State) (high : Bool) : State := { s with store := { s.store with powerGood := high } }

/-! ### The rows -/

/-- FORMAT (R182). -/
def execFormat (s : State) : Host.Outcome State Fault Refusal :=
  .next (s.serve (Frame.isKind .format) (wellFormedOr (fun r s => match r with
    | .format => formatUnit s
    | _ => (refuse .badRequest, s))))

/-- DEVICE_RESET (R179). -/
def execDeviceReset (kind : ResetKind) (headerReads : Bool) (s : State) : Host.Outcome State Fault Refusal :=
  .next (s.deviceReset kind headerReads)

/-- MOUNT_COMPLETE: the event at which the mount, having worked through its steps, completes (R181). -/
def execMountComplete (s : State) : Host.Outcome State Fault Refusal :=
  .next (if s.store.state = .mounting then s.completeMount.arbitrate else s)

/-- POWER_GOOD_FALL (R183). -/
def execPowerGoodFall (s : State) : Host.Outcome State Fault Refusal :=
  .next ((s.setPowerGood false).startPark)

/-- PARK: once the unit that held the store at the fall has completed, the store becomes PARKED (R183). That the passage to
PARKED is this row's own command, and no part of the unit's completion, is DESIGN CHOICE (log entry 12). -/
def execPark (s : State) : Host.Outcome State Fault Refusal :=
  .next (if s.store.parking = true ∧ s.arbiter.holder = none then s.parked else s)

/-- POWER_GOOD_RISE: the input is high again, and nothing else changes (R173, R183). -/
def execPowerGoodRise (s : State) : Host.Outcome State Fault Refusal := .next (s.setPowerGood true)

end Sys2Proof.Machine
end

