-- ==== Sys2Proof/WellFormed.lean ====
section
/-! DEFINITION. Which commands are well formed. The link accepts any bytes, so the one check is that
TRANSACTION_CODE_UNKNOWN carries a code that is indeed unknown (R185). -/

namespace Sys2Proof

/-- A command that the part can meet: TRANSACTION_CODE_UNKNOWN stands only for codes other than 1, 2 and 3. -/
def Instr.wellFormed : Instr → Bool
  | .transactionCodeUnknown code _ => !codeKnown code
  | _ => true

end Sys2Proof
end

