-- ==== Sys2Proof/Machine/Links.lean ====
section
/-! DEFINITION. The link transactions PUT, TAKE and LINK_RESET, a transaction of unknown code, and a frame of unknown
kind (chapter 11, sections 11.1 and 11.2). -/

namespace Sys2Proof.Machine

/-! ### Transactions (R185) -/

/-- The host's transaction of these bytes: the command it is joins the queue's tail (R185; the queue is the model's own, log
entry 22). -/
def State.transact (s : State) (bytes : List Byte) : State :=
  { s with pending := s.pending ++ (transactionOf bytes).toList }

/-! ### PUT (R185, R186) -/

/-- The frame that the bytes of a PUT make: none when they are a link error (R185). The length field counts the bytes
after it; kind and tag are the first three of them (R190). -/
def frameOf : List Byte → Option Frame
  | l0 :: l1 :: kind :: t0 :: t1 :: body =>
    let length := numberOf [l0, l1]
    if Config.frameLengthMin ≤ length && length ≤ Config.frameLengthMax && length = 3 + body.length then
      some ⟨kind, BitVec.ofNat 16 (numberOf [t0, t1]), body⟩
    else none
  | _ => none

/-- A request frame joins the intake queue, or is discarded with INTAKE_OVERRUN from a full one (R186). -/
def State.enqueue (s : State) (f : Frame) : State :=
  if s.link.intake.length < Config.intakePlaces then
    ({ s with link := { s.link with intake := s.link.intake ++ [f] } }).arbitrate
  else s.raise .intakeOverrun

/-- A PUT transaction of the bytes clocked after its code (R185, R186). While the store is PARKED it is ignored whole. -/
def State.put (s : State) (bytes : List Byte) : State :=
  if s.store.state = .parked then s
  else match frameOf bytes with
    | none => s.raise .linkError
    | some f => s.enqueue f

/-! ### TAKE (R188) -/

/-- The answer a TAKE returns: the head of the answer queue, none when the queue is empty or the store PARKED (R188). -/
def State.takenAnswer (s : State) : Option (List Byte) :=
  if s.store.state = .parked then none else s.link.answers.head?

/-- The bytes driven on SDO while `clocked` bytes are clocked; beyond the frame's end they read as 0, and the EMPTY frame is a
length of 0 (R188). -/
def sdoBytes (clocked : Nat) (answer : List Byte) : List Byte :=
  (answer ++ List.replicate clocked 0#8).take clocked

/-- A TAKE transaction in which `clocked` bytes are clocked after the code byte (R188). -/
def State.take (s : State) (clocked : Nat) : State :=
  match s.takenAnswer with
  | none => { s with link := { s.link with sdo := sdoBytes clocked [] } }
  | some a =>
    let t := { s with link := { s.link with sdo := sdoBytes clocked a } }
    if clocked < a.length then t.raise .linkError
    else ({ t with link := { t.link with answers := t.link.answers.tail } }).arbitrate

/-! ### LINK_RESET (R189) -/

/-- The conditions LINK_RESET clears (R189). -/
def linkResetClears : BitVec 16 := Condition.intakeOverrun.set ||| Condition.linkError.set

/-- A LINK_RESET transaction (R189): the answer of the request in progress will be discarded as it is produced. -/
def State.resetLink (s : State) : State :=
  { s with
    link := { s.link with intake := [], answers := [], latched := s.link.latched &&& ~~~linkResetClears }
    engine := { s.engine with discard := s.engine.current.isSome } }

/-! ### The rows -/

/-- PUT (R185). -/
def execPut (bytes : List Byte) (s : State) : Host.Outcome State Fault Refusal := .next (s.put bytes)

/-- TAKE (R188). -/
def execTake (clocked : Nat) (s : State) : Host.Outcome State Fault Refusal := .next (s.take clocked)

/-- LINK_RESET; the bytes after its code are ignored (R185, R189). -/
def execLinkReset (_ignored : List Byte) (s : State) : Host.Outcome State Fault Refusal := .next s.resetLink

/-- A transaction of unknown code: its bytes are discarded and LINK_ERROR is raised (R185). A code that is known is not
such a transaction, and nothing happens (log entry 3). -/
def execTransactionCodeUnknown (code : Byte) (_rest : List Byte) (s : State) : Host.Outcome State Fault Refusal :=
  .next (if codeKnown code then s else s.raise .linkError)

/-- UNKNOWN_REQUEST_KIND: the oldest frame is of unknown kind and is answered BAD_REQUEST without a grant (R178, R187). -/
def execUnknownRequestKind (s : State) : Host.Outcome State Fault Refusal :=
  .next (s.serve (fun f => (kindOf f.kind).isNone) (fun _ s => (refuse .badRequest, s)))

end Sys2Proof.Machine
end

