-- ==== Sys2Proof/Machine/Dispatch.lean ====
section
/-! DEFINITION. The one match from a command to its meaning. -/

namespace Sys2Proof.Machine

/-- A command's effect on everything but the queue of waiting commands. -/
def exec (i : Instr) (s : State) : Host.Outcome State Fault Refusal :=
  match i with
  | .put bytes => Sys2Proof.Machine.execPut bytes s
  | .take clocked => Sys2Proof.Machine.execTake clocked s
  | .linkReset ignored => Sys2Proof.Machine.execLinkReset ignored s
  | .transactionCodeUnknown code rest => Sys2Proof.Machine.execTransactionCodeUnknown code rest s
  | .unknownRequestKind => Sys2Proof.Machine.execUnknownRequestKind s
  | .issue => Sys2Proof.Machine.execIssue s
  | .load => Sys2Proof.Machine.execLoad s
  | .inquire => Sys2Proof.Machine.execInquire s
  | .suspend => Sys2Proof.Machine.execSuspend s
  | .resume => Sys2Proof.Machine.execResume s
  | .close => Sys2Proof.Machine.execClose s
  | .replace => Sys2Proof.Machine.execReplace s
  | .watchSetWrite => Sys2Proof.Machine.execWatchSetWrite s
  | .watchSetClear => Sys2Proof.Machine.execWatchSetClear s
  | .watchSetList => Sys2Proof.Machine.execWatchSetList s
  | .authorize => Sys2Proof.Machine.execAuthorize s
  | .capture => Sys2Proof.Machine.execCapture s
  | .release => Sys2Proof.Machine.execRelease s
  | .sale => Sys2Proof.Machine.execSale s
  | .basketOpen => Sys2Proof.Machine.execBasketOpen s
  | .basketCapture => Sys2Proof.Machine.execBasketCapture s
  | .basketRelease => Sys2Proof.Machine.execBasketRelease s
  | .refund => Sys2Proof.Machine.execRefund s
  | .terminalClear => Sys2Proof.Machine.execTerminalClear s
  | .merchantSet => Sys2Proof.Machine.execMerchantSet s
  | .merchantRemove => Sys2Proof.Machine.execMerchantRemove s
  | .merchantRead => Sys2Proof.Machine.execMerchantRead s
  | .closedRead => Sys2Proof.Machine.execClosedRead s
  | .scheduleStageWrite => Sys2Proof.Machine.execScheduleStageWrite s
  | .scheduleStageClear => Sys2Proof.Machine.execScheduleStageClear s
  | .scheduleRead => Sys2Proof.Machine.execScheduleRead s
  | .periodCut => Sys2Proof.Machine.execPeriodCut s
  | .periodStatus => Sys2Proof.Machine.execPeriodStatus s
  | .periodRelease => Sys2Proof.Machine.execPeriodRelease s
  | .payoutStart => Sys2Proof.Machine.execPayoutStart s
  | .payoutRead => Sys2Proof.Machine.execPayoutRead s
  | .payoutAbort => Sys2Proof.Machine.execPayoutAbort s
  | .walkersHold => Sys2Proof.Machine.execWalkersHold s
  | .walkersResume => Sys2Proof.Machine.execWalkersResume s
  | .setClock => Sys2Proof.Machine.execSetClock s
  | .routeSet => Sys2Proof.Machine.execRouteSet s
  | .sweepStart => Sys2Proof.Machine.execSweepStart s
  | .status => Sys2Proof.Machine.execStatus s
  | .statusClear => Sys2Proof.Machine.execStatusClear s
  | .config => Sys2Proof.Machine.execConfig s
  | .configRead => Sys2Proof.Machine.execConfigRead s
  | .format => Sys2Proof.Machine.execFormat s
  | .cutNEdge => Sys2Proof.Machine.execCutNEdge s
  | .timerefEdge => Sys2Proof.Machine.execTimerefEdge s
  | .dividerSecond => Sys2Proof.Machine.execDividerSecond s
  | .clockFallback => Sys2Proof.Machine.execClockFallback s
  | .minuteTick => Sys2Proof.Machine.execMinuteTick s
  | .holdLapse => Sys2Proof.Machine.execHoldLapse s
  | .basketLapse => Sys2Proof.Machine.execBasketLapse s
  | .dayRoll => Sys2Proof.Machine.execDayRoll s
  | .periodCounterExpiry => Sys2Proof.Machine.execPeriodCounterExpiry s
  | .lapseWork => Sys2Proof.Machine.execLapseWork s
  | .emptyBasketLapse => Sys2Proof.Machine.execEmptyBasketLapse s
  | .cut => Sys2Proof.Machine.execCut s
  | .walkUnit => Sys2Proof.Machine.execWalkUnit s
  | .trailerAppend => Sys2Proof.Machine.execTrailerAppend s
  | .sweepUnit => Sys2Proof.Machine.execSweepUnit s
  | .deviceReset kind headerReads => Sys2Proof.Machine.execDeviceReset kind headerReads s
  | .mountComplete => Sys2Proof.Machine.execMountComplete s
  | .powerGoodFall => Sys2Proof.Machine.execPowerGoodFall s
  | .park => Sys2Proof.Machine.execPark s
  | .powerGoodRise => Sys2Proof.Machine.execPowerGoodRise s

end Sys2Proof.Machine
end

