-- ==== Sys2Proof/Machine/Step.lean ====
section
/-! DEFINITION. One step of the part: the command at the front of the queue. -/

namespace Sys2Proof.Machine

/-- The queue of waiting commands replaced. -/
def State.setPending (s : State) (queue : List Instr) : State := { s with pending := queue }

/-- What a step does with no command waiting: the part idles, but for a mount, which comes on by one step of its own
(R180, R181; DESIGN CHOICE, log entry 4). -/
def State.idle (s : State) : State := if s.store.state = .mounting then s.mountStep else s

/-- One step: the command at the front of the queue is carried out on the state with the queue's rest. -/
def step (s : State) : Host.Outcome State Fault Refusal :=
  match s.pending with
  | [] => .next s.idle
  | c :: rest => exec c (s.setPending rest)

/-- The state with the command that a word spells at the front of its queue. No word spells one, since no row of the
table gives bits. -/
def State.withFetchWord (s : State) (nbits w : Nat) : State :=
  match decodeTableWord nbits w with
  | some c => s.setPending (c :: s.pending)
  | none => s

end Sys2Proof.Machine
end

