-- ==== Sys2Proof/Safety.lean ====
section
/-! DEFINITION. The terms in which claims about the part are stated: when a request is in progress or next to be taken,
what a frame leaves alone, and the invariants that the part keeps. -/

namespace Sys2Proof.Machine

/-! ### Requests in service -/

/-- The row of the table that serves a request. -/
def Request.row : Request → Instr
  | .issue .. => .issue
  | .load .. => .load
  | .inquire _ => .inquire
  | .suspend _ => .suspend
  | .resume _ => .resume
  | .close _ => .close
  | .replace .. => .replace
  | .watchWrite .. => .watchSetWrite
  | .watchClear _ => .watchSetClear
  | .watchList _ => .watchSetList
  | .authorize .. => .authorize
  | .capture .. => .capture
  | .release _ => .release
  | .sale .. => .sale
  | .basketOpen .. => .basketOpen
  | .basketCapture .. => .basketCapture
  | .basketRelease _ => .basketRelease
  | .refund .. => .refund
  | .terminalClear .. => .terminalClear
  | .merchantSet .. => .merchantSet
  | .merchantRemove _ => .merchantRemove
  | .merchantRead _ => .merchantRead
  | .closedRead _ => .closedRead
  | .scheduleWrite .. => .scheduleStageWrite
  | .scheduleClear _ => .scheduleStageClear
  | .scheduleRead _ => .scheduleRead
  | .periodCut => .periodCut
  | .periodStatus => .periodStatus
  | .periodRelease => .periodRelease
  | .payoutStart => .payoutStart
  | .payoutRead => .payoutRead
  | .payoutAbort => .payoutAbort
  | .walkersHold => .walkersHold
  | .walkersResume => .walkersResume
  | .setClock .. => .setClock
  | .routeSet _ => .routeSet
  | .sweepStart => .sweepStart
  | .status => .status
  | .statusClear _ => .statusClear
  | .config _ => .config
  | .configRead => .configRead
  | .format => .format

/-- A request's own work: its answer and the state it leaves, on the state in which it runs (R187). -/
def Request.work : Request → State → Reply × State
  | .issue n m p q => issueUnit n m p q
  | .load n m a q => loadUnit n m a q
  | .inquire n => inquireUnit n
  | .suspend n => setCardState .suspended n
  | .resume n => setCardState .active n
  | .close n => closeUnit n
  | .replace o n => replaceUnit o n
  | .watchWrite e n a => watchWriteUnit e n a
  | .watchClear e => watchClearUnit e
  | .watchList e => watchListUnit e
  | .authorize n m t a p mi b => authorizeUnit n m t a p mi b
  | .capture h a => captureUnit h a
  | .release h => releaseUnit h
  | .sale n m t a p => saleUnit n m t a p
  | .basketOpen m t mi => basketOpenUnit m t mi
  | .basketCapture b a => basketCaptureUnit b a
  | .basketRelease b => basketReleaseUnit b
  | .refund n m t a => refundUnit n m t a
  | .terminalClear m t => terminalClearUnit m t
  | .merchantSet i st sc al pr => merchantSetUnit i st sc al pr
  | .merchantRemove i => merchantRemoveUnit i
  | .merchantRead i => merchantReadUnit i
  | .closedRead i => closedReadUnit i
  | .scheduleWrite n c => scheduleWriteUnit n c
  | .scheduleClear n => scheduleClearUnit n
  | .scheduleRead n => scheduleReadUnit n
  | .periodCut => periodCutUnit
  | .periodStatus => periodStatusUnit
  | .periodRelease => periodReleaseUnit
  | .payoutStart => payoutStartUnit
  | .payoutRead => payoutReadUnit
  | .payoutAbort => payoutAbortUnit
  | .walkersHold => setHoldFlag true
  | .walkersResume => setHoldFlag false
  | .setClock d n => setClockUnit d n
  | .routeSet p => routeSetUnit p
  | .sweepStart => sweepStartUnit
  | .status => statusUnit
  | .statusClear c => statusClearUnit c
  | .config f => configUnit f
  | .configRead => configReadUnit
  | .format => formatUnit

/-- The card numbers of a card-naming request (R25); none for every other request. -/
def Request.cardNumbers : Request → List Nat
  | .issue n _ _ _ => [n]
  | .load n _ _ _ => [n]
  | .inquire n => [n]
  | .suspend n => [n]
  | .resume n => [n]
  | .close n => [n]
  | .replace o n => [o, n]
  | .authorize n _ _ _ _ _ _ => [n]
  | .sale n _ _ _ _ => [n]
  | .refund n _ _ _ => [n]
  | _ => []

/-- The request `r`, carried by the frame `f`, is in progress under its grant, and the store is READY (R175, R187). -/
structure State.InProgress (s : State) (f : Frame) (r : Request) : Prop where
  current : s.engine.current = some f
  carries : f.request = some r
  holds : s.arbiter.holder = some .requestEngine
  ready : s.store.state = .ready

/-- The frame `f` is the oldest of the intake queue, and the Request Engine may take it without a grant (R178, R187). -/
structure State.Next (s : State) (f : Frame) (rest : List Frame) : Prop where
  idle : s.engine.current = none
  oldest : s.link.intake = f :: rest
  may : s.mayTake = true

/-- The state with the oldest frame taken from the intake queue. -/
def State.taken (s : State) (rest : List Frame) : State := { s with link := { s.link with intake := rest } }

/-- A request served without a grant completes: its answer joins the answer queue, and the arbiter acts on the claims that
then stand (R177, R187). -/
def State.completeTaken (s : State) (f : Frame) (r : Reply) : State := (s.answer f r).arbitrate

/-- Steps 2 to 5 of the front checks are passed (R25): READY, the clock SET, every number valid, none declined. -/
structure State.PassesFront (s : State) (numbers : List Nat) : Prop where
  ready : s.store.state = .ready
  set : s.clock.isSet = true
  valid : ∀ n ∈ numbers, validNumber n = true
  free : ∀ n ∈ numbers, s.declined n = false

/-- The state in which a card-naming request goes to work on a card: watch matches recorded, the card's expiry posted
(R22, R45). -/
def State.reached (s : State) (number : Nat) (c : Card) : State :=
  (s.compareWatch number).postAll (lotsPostings s.today c.lots)

/-- The place of a claimant in the rotation order (R176). -/
def Claimant.place : Claimant → Nat
  | .requestEngine => 0
  | .lapseWork => 1
  | .periodController => 2
  | .payoutWalker => 3
  | .expirySweep => 4

/-- How many places after the last holder a claimant stands in the rotation, 0 for the next and 4 for the last holder
itself (R177). -/
def State.turn (s : State) (c : Claimant) : Nat := (c.place + 4 - s.arbiter.lastHolder.place) % 5

/-- A claim of `c` stands, and the store may be granted to it (R176). -/
def State.MayHold (s : State) (c : Claimant) : Prop := s.claims c = true ∧ s.grantable c = true

/-! ### Frames: what a change leaves alone -/

/-- Nothing but the latched conditions and the WATCH_HIT entry set differs. -/
def State.FlagsOnly (s t : State) : Prop :=
  t = { s with link := { s.link with latched := t.link.latched, watchHits := t.link.watchHits } }

/-- Nothing but the two value totals, merchant records and latched conditions differs. -/
def State.MoneyOnly (s t : State) : Prop :=
  t = { s with
    cards := { s.cards with paidOutstanding := t.cards.paidOutstanding, promoOutstanding := t.cards.promoOutstanding }
    merchants := t.merchants
    link := { s.link with latched := t.link.latched } }

/-- Nothing but the card table, merchant records, latched conditions and the WATCH_HIT entry set differs. -/
def State.CardsOnly (s t : State) : Prop :=
  t = { s with
    cards := t.cards
    merchants := t.merchants
    link := { s.link with latched := t.link.latched, watchHits := t.link.watchHits } }

/-- Nothing but the card table, merchant records, the Hold Table and latched conditions differs. -/
def State.HoldsOnly (s t : State) : Prop :=
  t = { s with
    cards := t.cards
    merchants := t.merchants
    hold := t.hold
    link := { s.link with latched := t.link.latched } }

/-- Nothing but the latched conditions and what a routed start may begin (the sweep's pass, the payout run, the snapshot's
state) differs (R163). -/
def State.EventOnly (s t : State) : Prop :=
  t = { s with
    link := { s.link with latched := t.link.latched }
    sweep := t.sweep
    payout := { s.payout with run := t.payout.run }
    period := { s.period with snapshot := { s.period.snapshot with state := t.period.snapshot.state } } }

/-- Nothing but what a store grant changes differs: the arbiter, the Request Engine, and the intake queue. -/
def State.GrantOnly (s t : State) : Prop :=
  t = { s with arbiter := t.arbiter, engine := t.engine, link := { s.link with intake := t.link.intake } }

/-! ### Postings: what each one moves -/

/-- The merchant whose record a posting moves; none for the value totals, and for a fee part at the operator (R60). -/
def Posting.target : Posting → Option Nat
  | .sold i _ => some i
  | .redeemed i _ => some i
  | .refunded i _ => some i
  | .sponsorCost i _ => some i
  | .promoLapsed i _ => some i
  | .breakage _ => some 0
  | .feePart i _ => if i = 0 then none else some i
  | .sponsoredUp i _ => some i
  | .sponsoredDown i _ => some i
  | .paidUp _ => none
  | .paidDown _ => none
  | .promoUp _ => none
  | .promoDown _ => none

/-- A posting would take a sum past its maximum (R105). -/
def Posting.passes (s : State) : Posting → Prop
  | .sold i a => Config.sum48Max < (s.merchant i).position.sold + a
  | .redeemed i a => Config.sum48Max < (s.merchant i).position.redeemed + a
  | .refunded i a => Config.sum48Max < (s.merchant i).position.refunded + a
  | .sponsorCost i a => Config.sum48Max < (s.merchant i).position.sponsorCost + a
  | .promoLapsed i a => Config.sum48Max < (s.merchant i).position.promoLapsed + a
  | .breakage a => Config.sum48Max < (s.merchant 0).position.breakage + a
  | .feePart i a => i ≠ 0 ∧
      (Config.feeUnitsMax < (s.merchant i).position.feeUnits +
          tierSplit (s.schedule (s.merchant i).schedule).active (s.merchant i).position.redeemed a ∨
        Config.sum48Max < (s.merchant i).position.captureCount + 1)
  | .sponsoredUp i a => Config.sum48Max < (s.merchant i).sponsored + a
  | .sponsoredDown _ _ => False
  | .paidUp a => Config.sum48Max < s.cards.paidOutstanding + a
  | .paidDown _ => False
  | .promoUp a => Config.sum48Max < s.cards.promoOutstanding + a
  | .promoDown _ => False

/-- The postings of the lazy expiry of the cards in these slots, in order (R21, R170). -/
def State.expiryOf (s : State) (slots : List Nat) : List Posting :=
  slots.flatMap (fun j => match s.cardAt j with
    | none => []
    | some c => lotsPostings s.today c.lots)

/-! ### Invariants -/

/-- The capacities of queues, tables and lists (R8, R15, R48, R74, R149, R186, R187), with what keeps them: a request in progress has a
free place for its answer, a walk unit in progress has a free place for its record, and no two baskets carry one number. -/
structure State.WithinCapacity (s : State) : Prop where
  intake : s.link.intake.length ≤ Config.intakePlaces
  answers : s.link.answers.length ≤ Config.answerPlaces
  answerFree : s.engine.current ≠ none → s.link.answers.length < Config.answerPlaces
  payout : s.payout.queue.length ≤ Config.payoutPlaces
  recordFree : s.arbiter.holder = some .payoutWalker →
    s.payout.queue.length < Config.payoutPlaces ∧ s.payout.run.position < Config.merchants
  position : s.payout.run.position ≤ Config.merchants
  holds : s.hold.holds.length ≤ Config.holdEntries
  baskets : s.hold.baskets.length ≤ Config.basketEntries
  basketNumbers : (s.hold.baskets.map (·.number)).Nodup
  members : ∀ b ∈ s.hold.baskets, b.members.length ≤ Config.basketMembers
  parts : ∀ h ∈ s.hold.holds, h.parts.length ≤ Config.lotsPerCard
  lots : ∀ e ∈ s.cards.slots, e.2.lots.length ≤ Config.lotsPerCard
  holdsOfCard : ∀ e ∈ s.cards.slots, e.2.openHolds ≤ Config.holdsPerCard

/-- Every table is in its canonical form, its numbers within the table's capacity (R1, R3, R43, R91, R109, R133). -/
structure State.TablesFormed (s : State) : Prop where
  slots : tableWf s.cards.slots
  slotRange : ∀ e ∈ s.cards.slots, e.1 < Config.cardSlots
  directory : tableWf s.cards.directory
  watch : tableWf s.watch
  watchRange : ∀ e ∈ s.watch, e.1 < Config.watchEntries
  merchants : tableWfD Merchant.unlisted s.merchants
  schedules : tableWfD ScheduleEntry.blank s.schedules
  scheduleRange : ∀ e ∈ s.schedules, e.1 < Config.schedules
  closed : tableWf s.period.snapshot.closed

/-- A lot key is a key of the spec: PAID without a sponsor, PROMO with a sponsor from 0 to 511 (R5, R6). -/
abbrev LotKey.Formed (k : LotKey) : Prop :=
  k.kind = .paid ∧ k.sponsor = none ∨ k.kind = .promo ∧ ∃ i ∈ k.sponsor, i < Config.merchants

/-- The numbers that tables are kept by, and that records name other records by, lie in their ranges (R1, R3, R5, R48, R74,
R91, R133). -/
structure State.TablesInRange (s : State) : Prop where
  cardNumbers : ∀ e ∈ s.cards.slots, e.2.number ≤ Config.cardNumberMax
  directory : ∀ e ∈ s.cards.directory, e.1 ≤ Config.cardNumberMax ∧ e.2 < Config.cardSlots
  lots : ∀ e ∈ s.cards.slots, ∀ l ∈ e.2.lots, l.key.Formed
  merchants : ∀ e ∈ s.merchants, e.1 < Config.merchants
  closed : ∀ e ∈ s.period.snapshot.closed, e.1 < Config.merchants
  holds : ∀ h ∈ s.hold.holds, h.merchant < Config.merchants ∧ h.slot < Config.cardSlots ∧ ∀ p ∈ h.parts, p.key.Formed
  baskets : ∀ b ∈ s.hold.baskets, b.merchant < Config.merchants

/-- The lots of a card: at most six, their keys distinct, in spend order, and none empty (R6 to R9). -/
structure LotsFormed (lots : List Lot) : Prop where
  few : lots.length ≤ Config.lotsPerCard
  distinct : (lots.map (·.key)).Nodup
  ordered : lots.Pairwise (fun a b => sortsBefore b.key a.key = false)
  valued : ∀ l ∈ lots, 0 < l.available + l.held

/-- Every card's lots are formed (R6 to R9; the first law of the device). -/
def State.LotsKept (s : State) : Prop := ∀ e ∈ s.cards.slots, LotsFormed e.2.lots

/-- The cents that holds reserve under a lot key (R10). -/
def reservedBy (key : LotKey) (holds : List Hold) : Nat :=
  (((holds.flatMap (·.parts)).filter (fun p => p.key == key)).map (·.cents)).sum

/-- The cents held in the lot of a key (R10). -/
def heldUnder (key : LotKey) (lots : List Lot) : Nat := ((lots.filter (fun l => l.key == key)).map (·.held)).sum

/-- The hold entries placed at a merchant (R104). -/
def HoldTable.atMerchant (t : HoldTable) (i : Nat) : List Hold := t.holds.filter (fun h => h.merchant = i)

/-- Holds, baskets and the lapse list go together (R50, R69, R74, R76, R80; the sixth law of the device): numbers are
carried once, a basket's members and the holds that name it are the same, a member has its basket's state and merchant, and
the lapse list holds each LAPSING hold and each LAPSING basket without members once. -/
structure HoldTable.Agrees (t : HoldTable) : Prop where
  numbers : (t.holds.map (·.number)).Nodup
  basketNumbers : (t.baskets.map (·.number)).Nodup
  members : ∀ b ∈ t.baskets, b.members.Nodup
  memberIff : ∀ b ∈ t.baskets, ∀ n, n ∈ b.members ↔ ∃ h ∈ t.holds, h.number = n ∧ h.basket = some b.number
  joined : ∀ h ∈ t.holds, ∀ n, h.basket = some n → ∃ b ∈ t.baskets, b.number = n
  same : ∀ h ∈ t.holds, ∀ b ∈ t.baskets, h.basket = some b.number → h.state = b.state ∧ h.merchant = b.merchant
  lapseOnce : t.lapse.Nodup
  lapseHold : ∀ n, LapseItem.hold n ∈ t.lapse ↔ ∃ h ∈ t.holds, h.number = n ∧ h.state = .lapsing
  lapseBasket : ∀ n, LapseItem.basket n ∈ t.lapse ↔
    ∃ b ∈ t.baskets, b.number = n ∧ b.state = .lapsing ∧ b.members = []

/-- What holds of the stored books in every store state: lots formed, card values within 1,000,000 cents, a number on one
card only, the operator listed, and no merchant UNLISTED that has promotional value on cards or a position (the first, second
and fifth laws of the device); with what keeps it: the serial counters in range, no hold before the store is READY, and no
holder once it is PARKED. -/
structure State.BooksSound (s : State) : Prop where
  lots : ∀ e ∈ s.cards.slots, LotsFormed e.2.lots
  keys : ∀ e ∈ s.cards.slots, ∀ l ∈ e.2.lots, l.key.Formed
  value : ∀ e ∈ s.cards.slots, lotsValue e.2.lots ≤ 1000000
  numbers : ∀ e ∈ s.cards.slots, ∀ k ∈ s.cards.slots, e.2.number = k.2.number → e = k
  limit : s.settings.cardLimit ≤ 1000000
  operator : (s.merchant 0).state = .active
  listed : ∀ i, (sponsoredValue i s.allLots ≠ 0 ∨ (s.merchant i).position ≠ Position.zero) →
    (s.merchant i).state ≠ .unlisted
  holdSerial : 1 ≤ s.hold.holdSerial ∧ s.hold.holdSerial ≤ Config.serialMax
  basketSerial : 1 ≤ s.hold.basketSerial ∧ s.hold.basketSerial ≤ Config.serialMax
  before : s.store.state = .mounting ∨ s.store.state = .unformatted →
    s.hold.holds = [] ∧ s.hold.baskets = [] ∧ s.hold.lapse = []
  parked : s.store.state = .parked → s.arbiter.holder = none

/-- What holds of the books while the store is READY: the directory names each card, the value totals and sponsored
outstandings are the sums of the lots, each lot's held is what holds reserve under its key, both open-hold counts count the
holds, and holds and baskets go together (the first, third, fourth, fifth and sixth laws of the device). -/
structure State.BooksBalance (s : State) : Prop where
  directory : ∀ n slot, tableFind s.cards.directory n = some slot ↔ ∃ c, s.cardAt slot = some c ∧ c.number = n
  paid : s.cards.paidOutstanding = kindValue .paid s.allLots
  promo : s.cards.promoOutstanding = kindValue .promo s.allLots
  sponsored : ∀ i, (s.merchant i).sponsored = sponsoredValue i s.allLots
  held : ∀ slot c, s.cardAt slot = some c → ∀ key, heldUnder key c.lots = reservedBy key (s.holdsOf slot)
  count : ∀ slot c, s.cardAt slot = some c → c.openHolds = (s.holdsOf slot).length
  countAt : ∀ i, (s.merchant i).openHolds = (s.hold.atMerchant i).length
  present : ∀ h ∈ s.hold.holds, ∃ c, s.cardAt h.slot = some c
  amount : ∀ h ∈ s.hold.holds, h.amount = (h.parts.map (·.cents)).sum ∧ 0 < h.amount
  listedAt : ∀ h ∈ s.hold.holds, (s.merchant h.merchant).state ≠ .unlisted
  agrees : s.hold.Agrees

/-- The laws of the device on cards, value and holds. -/
structure State.LawsKept (s : State) : Prop where
  sound : s.BooksSound
  balance : s.store.state = .ready → s.BooksBalance

/-- The clock's values are in range (R156), and no day roll is due while it is unset. -/
structure State.ClockInRange (s : State) : Prop where
  day : s.clock.day ≤ Config.dayMax
  second : s.clock.second < Config.secondsPerDay
  divider : s.clock.divider ≤ 3
  due : s.clock.rollDue = true → s.clock.isSet = true

/-- The Payout Walker's run, its queue and the snapshot go together (R141, R142, R148, R149): in READY the run is not IDLE
exactly while the snapshot is PAYING; while the store is MOUNTING or UNFORMATTED it is IDLE, and in every store state it is not IDLE
only while the snapshot is PAYING; an IDLE run has its record at
zero and an empty queue; a trailer stands only last, in a DRAINING run; the net total is the credit total less the debit
total. -/
structure State.RunMatched (s : State) : Prop where
  paying : s.store.state = .ready → (s.payout.run.state ≠ .idle ↔ s.period.snapshot.state = .paying)
  before : s.store.state = .mounting ∨ s.store.state = .unformatted → s.payout.run.state = .idle
  walking : s.payout.run.state ≠ .idle → s.period.snapshot.state = .paying
  idle : s.payout.run.state = .idle → s.payout.run = Run.idle ∧ s.payout.queue = []
  last : ∀ e ∈ s.payout.queue.dropLast, e.isTrailer = false
  draining : ∀ e ∈ s.payout.queue, e.isTrailer = true → s.payout.run.state = .draining
  net : s.payout.run.net = (s.payout.run.credit : Int) - s.payout.run.debit

end Sys2Proof.Machine
end

