-- ==== Sys2Proof/Certificates/Slice0/Obligations.lean ====
section
/-! DEFINITION. The statements about the part, one definition each. Those that rest on a convention of the model name its
log entry. -/

open Sys2Proof Sys2Proof.Machine

/-! ### The step, and the invariants that every step keeps -/

/-- A step takes the command at the front of the queue and is that command's meaning on the state with the queue's rest. With no
command waiting it changes nothing, but for a MOUNTING store, whose mount comes on by one step of its own. The queue of
commands is the model's own field (log entries 10 and 22), and so is what a step does on an empty one (log entry 4). -/
def Obligations.StepRunsFrontCommand : Prop :=
  (∀ (c : Instr) (rest : List Instr) (s : State), s.pending = c :: rest → step s = exec c (s.setPending rest)) ∧
  (∀ s : State, s.pending = [] → s.store.state ≠ .mounting → step s = .next s) ∧
  (∀ s : State, s.pending = [] → s.store.state = .mounting → step s = .next s.mountStep)

/-- The state right after power-on satisfies every invariant stated below. The values of the stored records before the first
FORMAT are the model's choice (log entry 1). -/
def Obligations.ResetMeetsInvariants : Prop :=
  State.reset.WithinCapacity ∧ State.reset.TablesFormed ∧ State.reset.TablesInRange ∧ State.reset.LotsKept ∧
    State.reset.LawsKept ∧ State.reset.ClockInRange ∧ State.reset.RunMatched

/-- No queue, table or list ever passes its capacity: the frames and answers on the link, the payout queue, holds and baskets, the
members of a basket, the holds of a card, and the lots of a card and parts of a hold (R8, R15, R48, R74, R149, R186, R187). -/
def Obligations.StepKeepsCapacity : Prop :=
  ∀ s t : State, s.WithinCapacity → step s = .next t → t.WithinCapacity

/-- Every table keeps its canonical form (log entry 9), one record for each number, in rising order; and the numbers that tables
are kept by, and that records name other records by, stay in their ranges (R1, R3, R43, R48, R74, R91, R109, R133). -/
def Obligations.StepKeepsTables : Prop :=
  ∀ s t : State, s.TablesFormed → step s = .next t → t.TablesFormed ∧ (s.TablesInRange → t.TablesInRange)

/-- Each card's lots keep distinct keys, at most six of them, in spend order, none empty (the first law of the device). And the
books keep the laws of the device on cards, value and holds: card values within 1,000,000 cents; while READY, the directory, the
value totals and sponsored outstandings as the lots' sums, each lot's held as what holds reserve under its key, the open-hold
counts as the holds they count, and baskets, members and the lapse list in agreement (laws one to six). -/
def Obligations.StepKeepsLots : Prop :=
  (∀ s t : State, s.LotsKept → step s = .next t → t.LotsKept) ∧
  (∀ s t : State, s.TablesFormed → s.LawsKept → step s = .next t → t.LawsKept)

/-- The clock stays in range, and while it is SET the day number never decreases (the eighth law of the device). -/
def Obligations.DayNeverDecreases : Prop :=
  ∀ s t : State, s.ClockInRange → step s = .next t →
    t.ClockInRange ∧ (s.clock.isSet = true → t.clock.isSet = true → s.clock.day ≤ t.clock.day)

/-- While the store is READY the walker is in a state other than IDLE exactly while the snapshot is PAYING; in every store state
it is so only while the snapshot is PAYING; and the queue and totals fit the run. -/
def Obligations.StepKeepsRunMatched : Prop := ∀ s t : State, s.RunMatched → step s = .next t → t.RunMatched

/-- The snapshot's period, totals and closed positions do not change from the cut that fills them until it is emptied (the
ninth law of the device). -/
def Obligations.SnapshotFixedUntilEmptied : Prop :=
  ∀ s t : State, s.period.snapshot.state ≠ .empty → step s = .next t →
    t.period.snapshot.state = .empty ∨
    t.period.snapshot = { s.period.snapshot with state := t.period.snapshot.state }

/-! ### Frames of the link -/

/-- What a host writes for a request is read back as that request, every field at every value it can carry; and what it clocks
for a frame is taken in as that frame. -/
def Obligations.FramesRoundTrip : Prop :=
  (∀ (r : Request) (tag : Tag), r.fits = true → (r.frame tag).request = some r) ∧
  (∀ f : Frame, f.body.length ≤ 250 → frameOf f.bytes = some f)

/-- A PUT of a whole frame joins the intake queue's tail; from a full queue it is discarded with INTAKE_OVERRUN; a PUT whose
length is out of range or does not fit its bytes raises LINK_ERROR; and in PARKED it is ignored. The first byte of a transaction
is its code: 1 PUT, 2 TAKE, 3 LINK_RESET, and any other raises LINK_ERROR; one without a byte is no command. That a transaction
becomes a command at the tail of the queue is the model's own (log entry 22). -/
def Obligations.PutQueuesOrDiscards : Prop :=
  (∀ (s : State) (f : Frame), f.body.length ≤ 250 → s.store.state ≠ .parked →
    s.link.intake.length < 16 →
    exec (.put f.bytes) s =
      .next ({ s with link := { s.link with intake := s.link.intake ++ [f] } } : State).arbitrate) ∧
  (∀ (s : State) (f : Frame), f.body.length ≤ 250 → s.store.state ≠ .parked → 16 ≤ s.link.intake.length →
    exec (.put f.bytes) s = .next { s with link := { s.link with latched := s.link.latched ||| 4#16 } }) ∧
  (∀ (s : State) (bytes : List Byte), s.store.state ≠ .parked →
    (bytes.length < 2 ∨ numberOf (bytes.take 2) < 3 ∨ 253 < numberOf (bytes.take 2) ∨
      bytes.length ≠ 2 + numberOf (bytes.take 2)) →
    exec (.put bytes) s = .next { s with link := { s.link with latched := s.link.latched ||| 8#16 } }) ∧
  (∀ (s : State) (bytes : List Byte), s.store.state = .parked → exec (.put bytes) s = .next s) ∧
  (∀ (s : State) (code : Byte) (rest : List Byte), code ≠ 1#8 → code ≠ 2#8 → code ≠ 3#8 →
    exec (.transactionCodeUnknown code rest) s =
      .next { s with link := { s.link with latched := s.link.latched ||| 8#16 } }) ∧
  (∀ (s : State) (rest : List Byte),
    s.transact (1#8 :: rest) = { s with pending := s.pending ++ [.put rest] } ∧
    s.transact (2#8 :: rest) = { s with pending := s.pending ++ [.take rest.length] } ∧
    s.transact (3#8 :: rest) = { s with pending := s.pending ++ [.linkReset rest] } ∧
    (∀ code, code ≠ 1#8 → code ≠ 2#8 → code ≠ 3#8 →
      s.transact (code :: rest) = { s with pending := s.pending ++ [.transactionCodeUnknown code rest] }) ∧
    s.transact [] = s)

/-- A TAKE that clocks every byte of the oldest answer reads it and removes it; one cut short reads its first bytes, leaves it
and raises LINK_ERROR; and one that finds no answer, or the store PARKED, reads zeros and changes nothing else. The field link.sdo,
which keeps what was read, is the model's own, and that the EMPTY frame reads as zeros however many bytes are clocked and raises no
LINK_ERROR however few is the model's choice (log entry 24, DESIGN CHOICE). -/
def Obligations.TakeReadsOldestAnswer : Prop :=
  ∀ (s : State) (n : Nat),
    (∀ (a : List Byte) (rest : List (List Byte)), s.store.state ≠ .parked → s.link.answers = a :: rest →
      a.length ≤ n →
      exec (.take n) s = .next ({ s with link := { s.link with
        answers := rest, sdo := a ++ List.replicate (n - a.length) 0#8 } } : State).arbitrate) ∧
    (∀ (a : List Byte) (rest : List (List Byte)), s.store.state ≠ .parked → s.link.answers = a :: rest →
      n < a.length →
      exec (.take n) s = .next { s with link := { s.link with
        sdo := a.take n, latched := s.link.latched ||| 8#16 } }) ∧
    ((s.store.state = .parked ∨ s.link.answers = []) →
      exec (.take n) s = .next { s with link := { s.link with sdo := List.replicate n 0#8 } })

/-- LINK_RESET empties both queues, so that ANSWER_READY falls, clears INTAKE_OVERRUN and LINK_ERROR, and leaves everything else.
A request in progress stays in progress, and completes with its answer discarded. -/
def Obligations.LinkResetEmptiesQueues : Prop :=
  ∀ (s : State) (ignored : List Byte), ∃ t : State,
    exec (.linkReset ignored) s = .next t ∧
    t = { s with
      link := { s.link with intake := [], answers := [], latched := s.link.latched &&& ~~~12#16 }
      engine := ⟨s.engine.current, s.engine.current.isSome⟩ } ∧
    t.stands .answerReady = false ∧ t.stands .intakeOverrun = false ∧ t.stands .linkError = false ∧
    (∀ c, c ≠ .answerReady → c ≠ .intakeOverrun → c ≠ .linkError → t.stands c = s.stands c) ∧
    (∀ f r, t.InProgress f r ↔ s.InProgress f r) ∧
    (∀ (u : State) (f : Frame) (a : Reply), s.engine.current = some f → u.engine = t.engine →
      (u.completeRequest f a).link.answers = u.link.answers)

/-! ### The Request Engine and the arbiter -/

/-- A request in progress that completes puts its answer at the tail of the answer queue, or nowhere when LINK_RESET asked for
it; the engine is idle, the store is given up with its holder as the last holder, and the minute ticks that waited are taken; then
the arbiter acts, which changes only what a new grant changes. A request served without a grant adds its answer, and then only a
grant may follow. -/
def Obligations.CompletionAddsAnswer : Prop :=
  ∀ (s : State) (f : Frame) (r : Reply),
    (let answers := if s.engine.discard then s.link.answers else s.link.answers ++ [answerFrame f r]
     let t : State := { s with
       link := { s.link with answers := answers }
       engine := ⟨none, false⟩
       arbiter := ⟨none, s.arbiter.holder.getD s.arbiter.lastHolder⟩
       hold := { HoldTable.ticks s.hold.ticksDue s.hold with ticksDue := 0 } }
     s.completeRequest f r = t.arbitrate ∧ t.GrantOnly t.arbitrate ∧
     (s.completeRequest f r).link.answers = answers ∧
     (s.arbiter.holder = some .requestEngine → (s.completeRequest f r).arbiter.lastHolder = .requestEngine) ∧
     ((∀ c, ¬ t.MayHold c) → (s.completeRequest f r).arbiter.holder = none ∧ (s.completeRequest f r).engine.current = none)) ∧
    (s.answer f r).GrantOnly (s.completeTaken f r) ∧
    s.answer f r = { s with link := { s.link with answers := s.link.answers ++ [answerFrame f r] } }

/-- Each claimant claims while its own condition holds, and the store may be granted in READY to any, in UNFORMATTED to the
Request Engine, and to none once POWER_GOOD has fallen. A free store is granted to the first claimant in rotation order after
the last holder whose claim stands; without such a claim, or while a unit holds the store, nothing changes; and a grant
changes only the holder, and for the Request Engine takes the oldest frame. That a malformed FORMAT in READY needs no grant is log
entry 28, and that a park under way grants nothing before the row PARK log entry 12 (both the model's choice). -/
def Obligations.ArbiterGrantsFirstInTurn : Prop :=
  ∀ s : State,
    (s.arbiter.holder ≠ none → s.arbitrate = s) ∧
    ((∀ c, ¬ s.MayHold c) → s.arbitrate = s) ∧
    (∀ c, s.arbiter.holder = none → s.MayHold c → (∀ d, s.MayHold d → s.turn c ≤ s.turn d) →
      s.arbitrate.arbiter = ⟨some c, s.arbiter.lastHolder⟩ ∧
      s.GrantOnly s.arbitrate ∧
      (c ≠ .requestEngine → s.arbitrate.engine = s.engine ∧ s.arbitrate.link = s.link) ∧
      (c = .requestEngine → ∃ f rest, s.link.intake = f :: rest ∧
        s.arbitrate.engine = ⟨some f, false⟩ ∧ s.arbitrate.link.intake = rest)) ∧
    (s.claims .requestEngine = true ↔
      s.link.answers.length < 16 ∧ ∃ f rest, s.link.intake = f :: rest ∧ s.frameNeedsGrant f = true) ∧
    (s.claims .lapseWork = true ↔ s.hold.lapse ≠ []) ∧
    (s.claims .periodController = true ↔ s.period.cutPending = .waiting ∧ s.clock.isSet = true) ∧
    (s.claims .payoutWalker = true ↔ s.payout.run.state = .walking ∧ s.payout.run.position < 512 ∧
      s.payout.queue.length < 32 ∧ s.payout.holdFlag = false) ∧
    (s.claims .expirySweep = true ↔ s.sweep.pass = .sweeping ∧ s.payout.holdFlag = false ∧ s.clock.isSet = true) ∧
    (∀ f, s.frameNeedsGrant f = true ↔
      (s.store.state = .ready ∧ ∃ k, kindOf f.kind = some k ∧
        k ∉ [.status, .statusClear, .payoutRead, .routeSet, .walkersHold, .walkersResume, .format]) ∨
      (s.store.state = .unformatted ∧ f.request = some .format)) ∧
    (∀ c, s.grantable c = true ↔ s.store.parking = false ∧
      (s.store.state = .ready ∨ s.store.state = .unformatted ∧ c = .requestEngine))

/-- A frame of unknown kind is answered BAD_REQUEST without a grant, echoing its kind and tag. In MOUNTING every request but
STATUS, and in UNFORMATTED every request but STATUS, CONFIG_READ and FORMAT, is answered NOT_READY without a grant and changes
nothing; a FORMAT taken in READY is answered WRONG_STATE. -/
def Obligations.UnservedFramesAnswered : Prop :=
  ∀ (s : State) (f : Frame) (rest : List Frame), s.Next f rest →
    (kindOf f.kind = none →
      exec .unknownRequestKind s = .next ((s.taken rest).completeTaken f (refuse .badRequest)) ∧
      answerFrame f (refuse .badRequest) = [0#8, 4#8, f.kind] ++ bytesOf 2 f.tag.toNat ++ [2#8]) ∧
    (∀ r, f.request = some r → s.store.state = .mounting → r ≠ .status →
      exec r.row s = .next ((s.taken rest).completeTaken f (refuse .notReady))) ∧
    (∀ r, f.request = some r → s.store.state = .unformatted → r ≠ .status → r ≠ .configRead → r ≠ .format →
      exec r.row s = .next ((s.taken rest).completeTaken f (refuse .notReady))) ∧
    (f.request = some .format → s.store.state = .ready →
      exec .format s = .next ((s.taken rest).completeTaken f (refuse .wrongState)))

/-! ### Cards -/

/-- A malformed request in progress is answered BAD_REQUEST and changes nothing. The front checks of every card-naming request
follow in order: CLOCK_UNSET, then BAD_NUMBER, then WATCHED; the first two change nothing, and the last keeps the watch matches it
recorded. The number check is R4's: at most 16 digits, every second digit from the right doubled, less 9 above 9, and the sum a
multiple of 10; a valid number with one digit changed is not valid. -/
def Obligations.FrontChecksInOrder : Prop :=
  ∀ (s : State) (f : Frame) (r : Request),
    (s.engine.current = some f → s.arbiter.holder = some .requestEngine → kindOf f.kind = some r.kind →
      r.kind ≠ .watchSet → r.kind ≠ .scheduleStage → f.request = none →
      exec r.row s = .next (s.completeRequest f (refuse .badRequest))) ∧
    (r.cardNumbers ≠ [] → s.InProgress f r →
      (s.clock.isSet = false → exec r.row s = .next (s.completeRequest f (refuse .clockUnset))) ∧
      (s.clock.isSet = true → (∃ n ∈ r.cardNumbers, validNumber n = false) →
        exec r.row s = .next (s.completeRequest f (refuse .badNumber))) ∧
      (s.clock.isSet = true → (∀ n ∈ r.cardNumbers, validNumber n = true) →
        (∃ n ∈ r.cardNumbers, s.declined n = true) →
        exec r.row s =
          .next ((r.cardNumbers.foldl State.compareWatch s).completeRequest f (refuse .watched)))) ∧
    (∀ n : Nat,
      (validNumber n = true ↔ n ≤ 9999999999999999 ∧
        ((List.range 16).map (fun k =>
          let d := n / 10 ^ k % 10
          if k % 2 = 0 then d else if 4 < d then 2 * d - 9 else 2 * d)).sum % 10 = 0) ∧
      (∀ k d : Nat, validNumber n = true → k < 16 → d < 10 → d ≠ n / 10 ^ k % 10 →
        validNumber (n - n / 10 ^ k % 10 * 10 ^ k + d * 10 ^ k) = false))

/-- A refused card-naming request changes nothing but the watch matches, which it records once the clock is SET and every number is
valid; its answer carries no field, but for INSUFFICIENT, which carries the available of the card after lazy expiry. -/
def Obligations.RefusedCardRequestChangesNothing : Prop :=
  ∀ (s : State) (f : Frame) (r : Request), r.cardNumbers ≠ [] → s.InProgress f r →
    exec r.row s = .next ((r.work s).2.completeRequest f (r.work s).1) ∧
    ((r.work s).1.result ≠ .ok → (r.work s).1.result ≠ .partialOk →
      (r.work s).2 = (if s.clock.isSet = true ∧ ∀ n ∈ r.cardNumbers, validNumber n = true
        then r.cardNumbers.foldl State.compareWatch s else s) ∧
      s.FlagsOnly (r.work s).2 ∧
      ((r.work s).1.result ≠ .insufficient → (r.work s).1.body = []) ∧
      ((r.work s).1.result = .insufficient → ∃ n ∈ r.cardNumbers, ∃ slot c, s.lookup n = some (slot, c) ∧
        (r.work s).1.body = field 4 (lotsAvailable (expireLots s.today c.lots))))

/-- An accepted ISSUE makes an ACTIVE card in the lowest free slot, with the PROMO lot before the PAID lot, and posts SOLD,
the totals and the sponsor's outstanding. -/
def Obligations.IssueCreatesCard : Prop :=
  ∀ (s : State) (f : Frame) (n m p slot : Nat) (q : Option PromoIssue),
    s.InProgress f (.issue n m p q) → s.TablesFormed → s.PassesFront [n] →
    issueInRange s.clock.day m p q = true → (s.merchant m).state = .active →
    (∀ x, q = some x → (s.merchant x.sponsor).state = .active) →
    tableFind s.cards.directory n = none →
    slot < 131072 → s.cardAt slot = none → (∀ j < slot, s.cardAt j ≠ none) →
    p + promoAmount q ≤ s.cfg.cardLimit →
    let lots := issueLots (paidKey s.cfg.paidExpiryDays s.clock.day) p q
    ∃ u : State,
      exec .issue s = .next (u.completeRequest f
        ⟨.ok, field 4 (p + promoAmount q) ++ field 2 lots.length⟩) ∧
      s.CardsOnly u ∧
      u.cardAt slot = some ⟨n, .active, lots, 0, s.clock.day⟩ ∧
      tableFind u.cards.directory n = some slot ∧
      (∀ j, j ≠ slot → u.cardAt j = s.cardAt j) ∧
      (∀ k, k ≠ n → tableFind u.cards.directory k = tableFind s.cards.directory k) ∧
      u.cards.paidOutstanding = (if p = 0 then s.cards.paidOutstanding else add48 s.cards.paidOutstanding p) ∧
      (u.merchant m).position.sold =
        (if p = 0 then (s.merchant m).position.sold else add48 (s.merchant m).position.sold p) ∧
      (∀ x, q = some x →
        u.cards.promoOutstanding = add48 s.cards.promoOutstanding x.amount ∧
        (u.merchant x.sponsor).sponsored = add48 (s.merchant x.sponsor).sponsored x.amount) ∧
      (∀ j, j ≠ m → (∀ x, q = some x → j ≠ x.sponsor) → u.merchant j = s.merchant j)

/-- An accepted LOAD credits the amount to the lot of its key, or to a new lot in spend order, sets the last-activity day and
makes ISSUE's postings for the kind loaded; the card's lazy expiry stands. -/
def Obligations.LoadCreditsCard : Prop :=
  ∀ (s : State) (f : Frame) (n m a slot : Nat) (q : Option PromoLoad) (c : Card),
    s.InProgress f (.load n m a q) → s.PassesFront [n] →
    loadInRange s.clock.day m a q = true → (s.merchant m).state = .active →
    (∀ x, q = some x → (s.merchant x.sponsor).state = .active) →
    s.lookup n = some (slot, c) → c.state = .active → LotsFormed c.lots →
    let before := expireLots s.today c.lots
    let key := loadKey s.cfg.paidExpiryDays s.clock.day q
    let after := creditLots key a before
    lotsValue before + a ≤ s.cfg.cardLimit → lotsFull key before = false →
    exec .load s = .next (((((s.reached n c).putCard slot
        { c with lots := after, lastActivity := s.clock.day } : State).postAll (loadPostings m a q))).completeRequest f
      ⟨.ok, field 4 (lotsValue before + a) ++ field 4 (lotsAvailable before + a) ++ field 2 after.length
        ++ field 4 (availableOf key before + a)⟩)

/-- A credit raises the value and the available of its key by the amount, leaves every other lot, keeps the lots formed, and adds
a lot only when no lot has the key. The lot of the key keeps its place; a new lot stands after every lot that the spend order
does not put after it, so after every lot level with it, and before the others. Spend order puts PROMO before PAID, and within a
kind the earlier expiry day first, no expiry day last. -/
def Obligations.CreditMergesOrInserts : Prop :=
  ∀ (key : LotKey) (a : Nat) (lots : List Lot), LotsFormed lots → 0 < a → lotsFull key lots = false →
    let after := creditLots key a lots
    LotsFormed after ∧ lotsValue after = lotsValue lots + a ∧ lotsAvailable after = lotsAvailable lots + a ∧
    availableOf key after = availableOf key lots + a ∧
    (∀ l ∈ lots, l.key ≠ key → l ∈ after) ∧ (∀ l ∈ after, l.key ≠ key → l ∈ lots) ∧
    after.length = (if hasKey key lots then lots.length else lots.length + 1) ∧
    ((∃ l ∈ lots, l.key = key) →
      after = lots.map (fun l => if l.key = key then { l with available := l.available + a } else l)) ∧
    ((∀ l ∈ lots, l.key ≠ key) → ∃ earlier later, lots = earlier ++ later ∧ after = earlier ++ ⟨key, a, 0⟩ :: later ∧
      (∀ l ∈ earlier, sortsBefore key l.key = false) ∧ (∀ l ∈ later, sortsBefore key l.key = true)) ∧
    (∀ j k : LotKey, sortsBefore j k = true ↔
      (j.kind = .promo ∧ k.kind = .paid) ∨
      (j.kind = k.kind ∧ ∃ d, j.expiry = some d ∧ ∀ e, k.expiry = some e → d < e))

/-- An accepted INQUIRE answers the card after lazy expiry with its holds, oldest first; only the expiry stands. The bytes of its lists
are log entry 6's, and the absent minutes or basket of a hold log entry 17's (both DEDUCED). -/
def Obligations.InquireReportsCard : Prop :=
  ∀ (s : State) (f : Frame) (n slot : Nat) (c : Card),
    s.InProgress f (.inquire n) → s.PassesFront [n] → s.lookup n = some (slot, c) →
    exec .inquire s = .next (((s.reached n c).putCard slot (c.expire s.today)).completeRequest f
      ⟨.ok, inquireBody (c.expire s.today) (s.hold.holds.filter (fun h => h.slot = slot))⟩)

/-- An accepted SUSPEND leaves the card SUSPENDED and an accepted RESUME leaves it ACTIVE, in both states from which they are
accepted; lots, holds and last-activity day stay, but for the lazy expiry. A CLOSING card is refused with WRONG_STATE. -/
def Obligations.SuspendResumeSetState : Prop :=
  ∀ (s : State) (f : Frame) (n slot : Nat) (c : Card),
    s.PassesFront [n] → s.lookup n = some (slot, c) →
    (c.state ≠ .closing → s.InProgress f (.suspend n) →
      exec .suspend s = .next (((s.reached n c).putCard slot
        { c with lots := expireLots s.today c.lots, state := .suspended } : State).completeRequest f ⟨.ok, [1#8, 1#8]⟩)) ∧
    (c.state ≠ .closing → s.InProgress f (.resume n) →
      exec .resume s = .next (((s.reached n c).putCard slot
        { c with lots := expireLots s.today c.lots, state := .active } : State).completeRequest f ⟨.ok, [1#8, 0#8]⟩)) ∧
    (c.state = .closing → s.InProgress f (.suspend n) →
      exec .suspend s = .next ((s.compareWatch n).completeRequest f (refuse .wrongState))) ∧
    (c.state = .closing → s.InProgress f (.resume n) →
      exec .resume s = .next ((s.compareWatch n).completeRequest f (refuse .wrongState)))

/-- An accepted CLOSE retires a card without holds and makes a card with holds CLOSING; a card with available value is refused
with NOT_EMPTY. The bytes of the dispositions, RETIRED 0 and CLOSING 1, are log entry 7's, and the absent count and held of a
retired card log entry 17's (both DEDUCED). -/
def Obligations.CloseRetiresOrCloses : Prop :=
  ∀ (s : State) (f : Frame) (n slot : Nat) (c : Card),
    s.InProgress f (.close n) → s.PassesFront [n] → s.lookup n = some (slot, c) → c.state ≠ .closing →
    let lots := expireLots s.today c.lots
    ((∀ l ∈ lots, l.available = 0) → c.openHolds = 0 →
      exec .close s = .next (((s.reached n c).retireCard slot n).completeRequest f
        ⟨.ok, [1#8, 0#8, 0#8, 0#8]⟩)) ∧
    ((∀ l ∈ lots, l.available = 0) → c.openHolds ≠ 0 →
      exec .close s = .next (((s.reached n c).putCard slot { c with lots := lots, state := .closing } : State).completeRequest f
        ⟨.ok, [1#8, 1#8] ++ field 2 c.openHolds ++ field 4 (lotsHeld lots)⟩)) ∧
    ((∃ l ∈ lots, l.available ≠ 0) →
      exec .close s = .next ((s.compareWatch n).completeRequest f (refuse .notEmpty)))

/-- An accepted REPLACE names the card by the new number in the same slot and makes it ACTIVE; the old number leaves the
directory; lots and last-activity day stay; no total and no merchant record moves but by the lazy expiry, which stands. -/
def Obligations.ReplaceRenamesCard : Prop :=
  ∀ (s : State) (f : Frame) (o n slot : Nat) (c : Card),
    s.InProgress f (.replace o n) → s.TablesFormed → s.PassesFront [o, n] → s.lookup o = some (slot, c) →
    tableFind s.cards.directory n = none → c.state ≠ .closing → c.openHolds = 0 →
    let lots := expireLots s.today c.lots
    let v := ((s.compareWatch o).compareWatch n).postAll (lotsPostings s.today c.lots)
    ∃ u : State,
      exec .replace s = .next (u.completeRequest f
        ⟨.ok, field 8 n ++ [1#8, 0#8] ++ field 4 (lotsValue lots) ++ field 2 lots.length⟩) ∧
      u = { v with cards := { v.cards with slots := u.cards.slots, directory := u.cards.directory } } ∧
      u.cardAt slot = some ⟨n, .active, lots, 0, c.lastActivity⟩ ∧
      tableFind u.cards.directory n = some slot ∧ tableFind u.cards.directory o = none ∧
      (∀ k, k ≠ o → k ≠ n → tableFind u.cards.directory k = tableFind s.cards.directory k) ∧
      (∀ j, j ≠ slot → u.cardAt j = s.cardAt j)

/-- WATCH_SET: WRITE rewrites the entry that holds the number, else the entry named; CLEAR empties the entry; LIST changes
nothing. The other entries stay, and the answer gives the entry and the whole list. The bytes of the actions, NOTIFY 0 and
DECLINE 1, are log entry 7's, and those of the list and of an empty entry log entry 6's (both DEDUCED). -/
def Obligations.WatchSetActs : Prop :=
  ∀ (s : State) (f : Frame) (e n a : Nat) (action : WatchAction), s.TablesFormed → e < 8 →
    (s.InProgress f (.watchWrite e n a) → validNumber n = true → watchActionOf a = some action →
      ∃ target, (target = e ∧ (∀ k w, tableFind s.watch k = some w → w.number ≠ n) ∨
          ∃ w, tableFind s.watch target = some w ∧ w.number = n) ∧
        exec .watchSetWrite s = .next (({ s with watch := tableInsert s.watch target ⟨n, action⟩ } : State).completeRequest f
          ⟨.ok, field 2 target ++ listBytes ((List.range 8).map
            (fun i => watchEntryBytes (tableFind (tableInsert s.watch target ⟨n, action⟩) i)))⟩)) ∧
    (s.InProgress f (.watchClear e) →
      exec .watchSetClear s = .next (({ s with watch := tableErase s.watch e } : State).completeRequest f
        ⟨.ok, field 2 e ++ listBytes ((List.range 8).map
          (fun i => watchEntryBytes (if i = e then none else tableFind s.watch i)))⟩)) ∧
    (s.InProgress f (.watchList e) →
      exec .watchSetList s = .next (s.completeRequest f
        ⟨.ok, field 2 e ++ listBytes ((List.range 8).map (fun i => watchEntryBytes (tableFind s.watch i)))⟩))

/-! ### Holds, baskets, refunds -/

/-- An accepted AUTHORIZE reserves the amount, or with partial-ok what the card has, as a new hold with the next number, and
raises both open-hold counts. That the answer carries whichever of the minutes and the basket number does not apply as an absent
field is log entry 17 (DEDUCED). -/
def Obligations.AuthorizeReserves : Prop :=
  ∀ (s : State) (f : Frame) (n m t a p slot : Nat) (minutes basket : Option Nat) (c : Card),
    s.InProgress f (.authorize n m t a p minutes basket) → s.PassesFront [n] →
    m < 512 → t ≤ 65535 → 1 ≤ a → a ≤ 1000000 → p ≤ 1 → basket ≠ some 0 →
    (s.merchant m).state = .active → s.lookup n = some (slot, c) → c.state = .active →
    s.hold.holds.length < 8192 → c.openHolds < 8 →
    (∀ k, basket = some k → ∃ b, s.hold.openBasket k = some b ∧ b.merchant = m ∧ b.members.length < 4) →
    let lots := expireLots s.today c.lots
    let available := lotsAvailable lots
    (a ≤ available ∨ 0 < available ∧ p = 1) →
    let amount := min a available
    let hold : Hold := ⟨s.hold.nextHold, .opened, slot, m, t, amount, partsOf amount lots,
      (if basket.isSome then none else some (minutesApplied s.cfg.holdMinutes minutes)), basket⟩
    let card : Card := { c with lots := reserveLots amount lots, openHolds := c.openHolds + 1 }
    exec .authorize s = .next (({ (((s.reached n c).putCard slot card).onMerchant m
          (fun r => { r with openHolds := r.openHolds + 1 })) with
        hold := s.hold.addHold hold } : State).completeRequest f
      ⟨if a ≤ available then .ok else .partialOk,
       field 4 hold.number ++ field 4 amount ++ fieldBytes 2 hold.minutes ++ fieldBytes 4 basket
        ++ field 4 (available - amount)⟩)

/-- A reservation within the available takes exactly the amount, in parts of at least one cent; it moves value from available to
held lot by lot, keeping the lots and their value; it draws on a lot only when every lot before it is left with nothing
available, and its parts stand in the lots' order; and its hold number is carried by no other hold. -/
def Obligations.ReservationCoversAmount : Prop :=
  (∀ (a : Nat) (lots : List Lot), a ≤ lotsAvailable lots →
    ((partsOf a lots).map (·.cents)).sum = a ∧ (∀ p ∈ partsOf a lots, 0 < p.cents) ∧
    (partsOf a lots).length ≤ lots.length ∧
    (reserveLots a lots).map (·.key) = lots.map (·.key) ∧
    (reserveLots a lots).map (fun l => l.available + l.held) = lots.map (fun l => l.available + l.held) ∧
    lotsAvailable (reserveLots a lots) = lotsAvailable lots - a ∧
    lotsHeld (reserveLots a lots) = lotsHeld lots + a) ∧
  (∀ (a : Nat) (before : List Lot) (l : Lot) (after : List Lot),
    let drawn := reserveLots a (before ++ l :: after)
    (a ≤ lotsAvailable before → drawn = reserveLots a before ++ l :: after ∧
      partsOf a (before ++ l :: after) = partsOf a before) ∧
    (lotsAvailable before < a → (∀ x ∈ drawn.take before.length, x.available = 0) ∧
      drawn[before.length]? = some { l with
        available := l.available - min (a - lotsAvailable before) l.available
        held := l.held + min (a - lotsAvailable before) l.available } ∧
      (0 < l.available → partsOf a (before ++ l :: after) = partsOf a before ++
        ⟨l.key, min (a - lotsAvailable before) l.available⟩ :: partsOf (a - lotsAvailable before - l.available) after))) ∧
  (∀ t : HoldTable, t.holds.length ≤ 8192 → 1 ≤ t.holdSerial → t.holdSerial ≤ 4294967295 →
    (∀ h ∈ t.holds, h.number ≠ t.nextHold) ∧ 1 ≤ t.nextHold ∧ t.nextHold ≤ 4294967295)

/-- An accepted CAPTURE ends the hold with the amount, or the whole hold for 0, and posts the take at the hold's merchant; an
accepted RELEASE ends it with nothing taken. The bytes of the card's disposition are log entry 7's (DEDUCED). -/
def Obligations.CaptureReleaseEndHold : Prop :=
  ∀ (s : State) (f : Frame) (n a : Nat) (h : Hold), s.clock.isSet = true → s.hold.openHold n = some h →
    (s.InProgress f (.capture n a) → h.basket = none → a ≤ h.amount → a ≤ 1000000 →
      let taken := if a = 0 then h.amount else a
      let parts := splitParts taken h.parts
      let u := (s.endHold h taken).postAll (capturePostings h.merchant taken)
      exec .capture s = .next (u.completeRequest f
        ⟨.ok, field 4 n ++ field 4 taken ++ field 4 (paidTaken parts) ++ field 4 (promoTaken parts)
          ++ field 4 (parts.map (·.returned)).sum ++ field 4 (parts.map (PartEnd.expired s.today)).sum
          ++ field 1 (u.disposition h.slot)⟩)) ∧
    (s.InProgress f (.release n) →
      let parts := splitParts 0 h.parts
      exec .release s = .next ((s.endHold h 0).completeRequest f
        ⟨.ok, field 4 n ++ field 4 (parts.map (·.returned)).sum
          ++ field 4 (parts.map (PartEnd.expired s.today)).sum ++ field 1 ((s.endHold h 0).disposition h.slot)⟩))

/-- The end of a hold: the entry is freed and leaves its basket's member list, and a LAPSING basket left without members is freed
too; both counts fall by one, the last-activity day moves only when something was taken, and a CLOSING card whose last hold ends
is retired at value 0 and ACTIVE otherwise. It posts, in this order, the lazy expiry of the card's lots, and then for each part
the expiry of the cents it returns to an expired lot and its cents taken: a PROMO part as SPONSOR_COST with the fall of its sponsored
outstanding and the promo total, a PAID part as the fall of the paid total. The take at the capturing merchant is the request's.
Nothing but cards, merchants, holds and conditions differs. -/
def Obligations.EndOfHoldSettlesCard : Prop :=
  ∀ (s : State) (h : Hold) (taken : Nat) (c : Card), s.TablesFormed → s.cardAt h.slot = some c →
    let t := s.endHold h taken
    let lots := endLots s.today (splitParts taken h.parts) c.lots
    let card : Card := { c with
      lots := lots, openHolds := c.openHolds - 1
      lastActivity := if taken = 0 then c.lastActivity else s.clock.day }
    let out (k : LotKey) : Bool := s.clock.isSet && k.expiry.any (fun d => d < s.clock.day)
    let expired (k : LotKey) (n : Nat) : List Posting :=
      if n = 0 ∨ out k = false then []
      else match k.kind with
        | .paid => [.breakage n, .paidDown n]
        | .promo => [.promoLapsed (k.sponsor.getD 0) n, .sponsoredDown (k.sponsor.getD 0) n, .promoDown n]
    let spent (k : LotKey) (n : Nat) : List Posting :=
      if n = 0 then []
      else match k.kind with
        | .paid => [.paidDown n]
        | .promo => [.sponsorCost (k.sponsor.getD 0) n, .sponsoredDown (k.sponsor.getD 0) n, .promoDown n]
    let w := s.postAll (c.lots.flatMap (fun l => expired l.key l.available) ++
      (splitParts taken h.parts).flatMap (fun p => expired p.key p.returned ++ spent p.key p.taken))
    s.HoldsOnly t ∧
    t.cards.paidOutstanding = w.cards.paidOutstanding ∧ t.cards.promoOutstanding = w.cards.promoOutstanding ∧
    t.link = w.link ∧
    (∀ i, t.merchant i =
      if i = h.merchant then { w.merchant i with openHolds := (w.merchant i).openHolds - 1 } else w.merchant i) ∧
    t.hold = { s.hold with
      holds := s.hold.holds.filter (fun e => e.number ≠ h.number)
      baskets := match h.basket with
        | none => s.hold.baskets
        | some n => (s.hold.baskets.map (fun b =>
            if b.number = n then { b with members := b.members.filter (fun m => m ≠ h.number) } else b)).filter
          (fun b => ¬ (b.number = n ∧ b.state = .lapsing ∧ b.members = [])) } ∧
    t.hold.holds = s.hold.holds.filter (fun e => e.number ≠ h.number) ∧
    (t.merchant h.merchant).openHolds = (s.merchant h.merchant).openHolds - 1 ∧
    t.cardAt h.slot =
      (if c.state = .closing ∧ c.openHolds - 1 = 0 then
        (if lotsValue lots = 0 then none else some { card with state := .active })
       else some card) ∧
    (∀ j, j ≠ h.slot → t.cardAt j = s.cardAt j)

/-- An accepted SALE takes the amount, or with partial-ok what the card has, from the lots in spend order, and posts the take at
the merchant named. -/
def Obligations.SaleTakes : Prop :=
  ∀ (s : State) (f : Frame) (n m t a p slot : Nat) (c : Card),
    s.InProgress f (.sale n m t a p) → s.PassesFront [n] →
    m < 512 → t ≤ 65535 → 1 ≤ a → a ≤ 1000000 → p ≤ 1 →
    (s.merchant m).state = .active → s.lookup n = some (slot, c) → c.state = .active →
    let lots := expireLots s.today c.lots
    let available := lotsAvailable lots
    (a ≤ available ∨ 0 < available ∧ p = 1) →
    let amount := min a available
    let parts := saleParts amount lots
    let card : Card := { c with lots := dropEmpty (drawLots amount lots), lastActivity := s.clock.day }
    exec .sale s = .next ((((s.reached n c).putCard slot card).postAll
        (parts.flatMap (fun p => takenPostings p.key p.taken) ++ [.feePart m amount, .redeemed m amount])).completeRequest f
      ⟨if a ≤ available then .ok else .partialOk,
       field 4 amount ++ field 4 (paidTaken parts) ++ field 4 (promoTaken parts) ++ field 4 (available - amount)⟩)

/-- What each posting moves: one sum of one merchant or one value total, or for a fee part the fee units and the capture count, by
its amount, stopping at the maximum; SATURATED is raised exactly when a sum would pass it; no other merchant's record moves, and
no other total. A sum that stands at its maximum is not decreased (DEDUCED, log entry 16). At the operator a fee part moves
nothing. -/
def Obligations.PostingsMoveOneSum : Prop :=
  ∀ (s : State) (i a : Nat), s.TablesFormed →
    (∀ p : Posting, s.MoneyOnly (s.post p)) ∧
    ((s.post (.redeemed i a)).merchant i = { s.merchant i with position :=
      { (s.merchant i).position with redeemed := min 281474976710655 ((s.merchant i).position.redeemed + a) } }) ∧
    ((s.post (.sold i a)).merchant i = { s.merchant i with position :=
      { (s.merchant i).position with sold := min 281474976710655 ((s.merchant i).position.sold + a) } }) ∧
    ((s.post (.refunded i a)).merchant i = { s.merchant i with position :=
      { (s.merchant i).position with refunded := min 281474976710655 ((s.merchant i).position.refunded + a) } }) ∧
    ((s.post (.sponsorCost i a)).merchant i = { s.merchant i with position :=
      { (s.merchant i).position with sponsorCost := min 281474976710655 ((s.merchant i).position.sponsorCost + a) } }) ∧
    ((s.post (.promoLapsed i a)).merchant i = { s.merchant i with position :=
      { (s.merchant i).position with promoLapsed := min 281474976710655 ((s.merchant i).position.promoLapsed + a) } }) ∧
    ((s.post (.breakage a)).merchant 0 = { s.merchant 0 with position :=
      { (s.merchant 0).position with breakage := min 281474976710655 ((s.merchant 0).position.breakage + a) } }) ∧
    ((s.post (.sponsoredUp i a)).merchant i =
      { s.merchant i with sponsored := min 281474976710655 ((s.merchant i).sponsored + a) }) ∧
    ((s.merchant i).sponsored < 281474976710655 → (s.post (.sponsoredDown i a)).merchant i =
      { s.merchant i with sponsored := (s.merchant i).sponsored - a }) ∧
    (i ≠ 0 → (s.post (.feePart i a)).merchant i = { s.merchant i with position :=
      { (s.merchant i).position with
        feeUnits := min 18446744073709551615 ((s.merchant i).position.feeUnits +
          tierSplit (s.schedule (s.merchant i).schedule).active (s.merchant i).position.redeemed a)
        captureCount := min 281474976710655 ((s.merchant i).position.captureCount + 1) } }) ∧
    (s.post (.feePart 0 a) = s) ∧
    ((s.post (.paidUp a)).cards.paidOutstanding = min 281474976710655 (s.cards.paidOutstanding + a)) ∧
    (s.cards.paidOutstanding < 281474976710655 →
      (s.post (.paidDown a)).cards.paidOutstanding = s.cards.paidOutstanding - a) ∧
    ((s.post (.promoUp a)).cards.promoOutstanding = min 281474976710655 (s.cards.promoOutstanding + a)) ∧
    (s.cards.promoOutstanding < 281474976710655 →
      (s.post (.promoDown a)).cards.promoOutstanding = s.cards.promoOutstanding - a) ∧
    (s.cards.paidOutstanding = 281474976710655 → (s.post (.paidDown a)).cards.paidOutstanding = 281474976710655) ∧
    (s.cards.promoOutstanding = 281474976710655 → (s.post (.promoDown a)).cards.promoOutstanding = 281474976710655) ∧
    ((s.merchant i).sponsored = 281474976710655 →
      ((s.post (.sponsoredDown i a)).merchant i).sponsored = 281474976710655) ∧
    (∀ (p : Posting) (j : Nat), p.target ≠ some j → (s.post p).merchant j = s.merchant j) ∧
    (∀ p : Posting, (∀ x, p ≠ .paidUp x ∧ p ≠ .paidDown x) →
      (s.post p).cards.paidOutstanding = s.cards.paidOutstanding) ∧
    (∀ p : Posting, (∀ x, p ≠ .promoUp x ∧ p ≠ .promoDown x) →
      (s.post p).cards.promoOutstanding = s.cards.promoOutstanding) ∧
    (∀ p : Posting,
      (p.passes s → (s.post p).link = { s.link with latched := s.link.latched ||| 2048#16 }) ∧
      (¬ p.passes s → (s.post p).link = s.link))

/-- MINUTE_TICK, taken when no unit is in progress, counts each OPEN hold of its own timer and each OPEN basket down by one, and
makes those that reach 0, and the members of such baskets, LAPSING; HOLD_LAPSE and BASKET_LAPSE are that tick where a hold or
a basket lapses (log entry 5). Only the Hold Table differs, but for a grant. -/
def Obligations.MinuteTickCountsDown : Prop :=
  ∀ s : State, 0 < s.hold.ticksDue → s.arbiter.holder = none →
    let h := s.hold.tick
    let u : State := { s with hold := { h with ticksDue := s.hold.ticksDue - 1 } }
    exec .minuteTick s = .next u.arbitrate ∧
    (s.hold.holds.any Hold.lapsesAlone = true → exec .holdLapse s = .next u.arbitrate) ∧
    (s.hold.baskets.any Basket.lapsesNext = true → exec .basketLapse s = .next u.arbitrate) ∧
    u.GrantOnly u.arbitrate ∧
    h.holds.map (fun e => (e.number, e.slot, e.merchant, e.terminal, e.amount, e.parts, e.basket)) =
      s.hold.holds.map (fun e => (e.number, e.slot, e.merchant, e.terminal, e.amount, e.parts, e.basket)) ∧
    (∀ e ∈ s.hold.holds, e.state = .opened → e.basket = none → ∀ k, e.minutes = some k →
      { e with minutes := some (k - 1), state := if k ≤ 1 then .lapsing else .opened } ∈ h.holds ∧
      (k ≤ 1 → LapseItem.hold e.number ∈ h.lapse)) ∧
    (∀ e ∈ s.hold.holds, e.state = .lapsing → e ∈ h.holds) ∧
    (∀ b ∈ s.hold.baskets, b.state = .opened →
      { b with minutes := b.minutes - 1, state := if b.minutes ≤ 1 then .lapsing else .opened } ∈ h.baskets ∧
      (b.minutes ≤ 1 → ∀ e ∈ s.hold.holds, e.state = .opened → e.basket = some b.number →
        { e with state := .lapsing } ∈ h.holds ∧ LapseItem.hold e.number ∈ h.lapse) ∧
      (b.minutes ≤ 1 → b.members = [] → LapseItem.basket b.number ∈ h.lapse)) ∧
    s.hold.lapse <+: h.lapse

/-- A unit of lapse work on the oldest item: a hold is ended with nothing taken, an empty basket is freed; the item leaves the list
and lapse work becomes the last holder. -/
def Obligations.LapseWorkFinishesOldest : Prop :=
  ∀ (s : State) (n : Nat) (rest : List LapseItem), s.arbiter.holder = some .lapseWork →
    (∀ h, s.hold.lapse = .hold n :: rest → s.hold.holds.find? (fun e => e.number = n) = some h →
      ∃ u, u = s.endHold h 0 ∧ u.hold.lapse = .hold n :: rest ∧
        exec .lapseWork s = .next (({ u with
          hold := { u.hold with lapse := rest } } : State).completeUnit false)) ∧
    (s.hold.lapse = .basket n :: rest →
      exec .emptyBasketLapse s = .next (({ s with hold := { s.hold with
        baskets := s.hold.baskets.filter (fun b => b.number ≠ n), lapse := rest } } : State).completeUnit false))

/-- An accepted BASKET_OPEN adds an OPEN basket with the next number, no member, and the minutes applied; nothing else
differs. That a number still carried is passed over at this moment, as R50 says of holds, is log entry 26 (DEDUCED). -/
def Obligations.BasketOpenAddsBasket : Prop :=
  ∀ (s : State) (f : Frame) (m t : Nat) (minutes : Option Nat), s.InProgress f (.basketOpen m t minutes) →
    s.clock.isSet = true → m < 512 → t ≤ 65535 → (s.merchant m).state = .active → s.hold.baskets.length < 1024 →
    let applied := match minutes with
      | none => s.cfg.holdMinutes
      | some k => if k = 0 then s.cfg.holdMinutes else if 1440 < k then 1440 else k
    ∃ n, (∀ b ∈ s.hold.baskets, b.number ≠ n) ∧
      ((∀ b ∈ s.hold.baskets, b.number ≠ s.hold.basketSerial) → n = s.hold.basketSerial) ∧
      exec .basketOpen s = .next (({ s with hold := { s.hold with
          baskets := s.hold.baskets ++ [⟨n, .opened, m, t, [], applied⟩]
          basketSerial := if 4294967295 ≤ n then 1 else n + 1 } } : State).completeRequest f
        ⟨.ok, field 4 n ++ field 2 applied⟩)

/-- An accepted BASKET_CAPTURE ends the members in join order with their shares, frees the basket, and posts one take of the
whole at the basket's merchant; an accepted BASKET_RELEASE ends them with nothing taken. The bytes of the list of members are log
entry 6's, and those of a card's disposition log entry 7's (both DEDUCED). -/
def Obligations.BasketRequestsEndMembers : Prop :=
  ∀ (s : State) (f : Frame) (n a : Nat) (b : Basket), s.clock.isSet = true → n ≠ 0 →
    s.hold.openBasket n = some b →
    let holds := s.hold.memberHolds b.members
    (s.InProgress f (.basketCapture n a) → a ≤ 4000000 → a ≤ amountsOf holds →
      let taken := if a = 0 then amountsOf holds else a
      let ends := shares taken holds
      let r := totalReport (s.endReports ends)
      let u := ((s.endHolds ends).freeBasket n).postAll (capturePostings b.merchant taken)
      (ends.map (·.1) = holds ∧ (ends.map (·.2)).sum = taken ∧ (∀ e ∈ ends, e.2 ≤ e.1.amount)) ∧
      exec .basketCapture s = .next (u.completeRequest f
        ⟨.ok, field 4 n ++ field 4 taken ++ field 4 r.paid ++ field 4 r.promo ++ field 4 r.returned ++ field 4 r.expired
          ++ listBytes ((ends.zip (s.endReports ends)).map (fun e => memberBytes u e.1 e.2))⟩)) ∧
    (s.InProgress f (.basketRelease n) →
      let ends := holds.map (fun h => (h, 0))
      let r := totalReport (s.endReports ends)
      let u := (s.endHolds ends).freeBasket n
      (∀ e ∈ u.hold.baskets, e.number ≠ n) ∧
      exec .basketRelease s = .next (u.completeRequest f
        ⟨.ok, field 4 n ++ field 2 holds.length ++ field 4 r.returned ++ field 4 r.expired⟩))

/-- An accepted REFUND credits paid value to an ACTIVE or SUSPENDED card, within the allowance, the card limit and the lot count,
sets the last-activity day, and posts REFUNDED and the paid total, and nothing else. -/
def Obligations.RefundCreditsCard : Prop :=
  ∀ (s : State) (f : Frame) (n m t a slot : Nat) (c : Card),
    s.InProgress f (.refund n m t a) → s.PassesFront [n] →
    m < 512 → t ≤ 65535 → 1 ≤ a → a ≤ 1000000 →
    (s.merchant m).state ≠ .unlisted → s.lookup n = some (slot, c) → c.state ≠ .closing → LotsFormed c.lots →
    (s.merchant m).position.refunded + a ≤ (s.merchant m).position.redeemed + (s.merchant m).allowance →
    let before := expireLots s.today c.lots
    let key := paidKey s.cfg.paidExpiryDays s.clock.day
    lotsValue before + a ≤ s.cfg.cardLimit → lotsFull key before = false →
    let after := creditLots key a before
    let u := ((s.reached n c).putCard slot { c with lots := after, lastActivity := s.clock.day } : State).postAll
      [.refunded m a, .paidUp a]
    exec .refund s = .next (u.completeRequest f
      ⟨.ok, field 4 (lotsValue before + a) ++ field 4 (lotsAvailable before + a) ++ field 2 after.length
        ++ field 8 ((u.merchant m).position.redeemed + (u.merchant m).allowance - (u.merchant m).position.refunded)⟩)

/-- An accepted TERMINAL_CLEAR ends, with nothing taken, the members of the OPEN baskets that terminal opened, frees those baskets,
and then ends the OPEN holds it placed that remain. It leaves no such basket and no such hold, ends no other hold, posts no take,
and answers the two counts and the cents returned and expired, of which a sum beyond 4 bytes is carried as a free value (log
entry 11). -/
def Obligations.TerminalClearLeavesNone : Prop :=
  ∀ (s : State) (f : Frame) (m t : Nat), s.InProgress f (.terminalClear m t) → s.clock.isSet = true →
    m < 512 → t ≤ 65535 →
    let baskets := s.hold.baskets.filter (fun b => b.state = .opened && b.merchant = m && b.terminal = t)
    let first := s.clearedMembers m t
    let v := s.clearBaskets m t
    let second := v.clearedHolds m t
    let u := v.endHolds second
    let r := totalReport (s.endReports (first ++ second))
    exec .terminalClear s = .next (u.completeRequest f
      ⟨.ok, field 2 (first ++ second).length ++ field 2 baskets.length ++ centsField r.returned ++ centsField r.expired⟩) ∧
    (∀ e ∈ first, e.2 = 0 ∧ e.1 ∈ s.hold.holds ∧ ∃ b ∈ baskets, e.1.number ∈ b.members) ∧
    (∀ e ∈ second, e.2 = 0 ∧ e.1 ∈ s.hold.holds ∧ e.1.state = .opened ∧ e.1.merchant = m ∧ e.1.terminal = t) ∧
    (∀ b ∈ baskets, ∀ n ∈ b.members, ∀ h ∈ u.hold.holds, h.number ≠ n) ∧
    (∀ h ∈ u.hold.holds, ¬ (h.state = .opened ∧ h.merchant = m ∧ h.terminal = t)) ∧
    (∀ b ∈ u.hold.baskets, ¬ (b.state = .opened ∧ b.merchant = m ∧ b.terminal = t)) ∧
    u.hold.holds = s.hold.holds.filter (fun h => (first ++ second).all (fun e => e.1.number ≠ h.number)) ∧
    s.HoldsOnly u ∧
    (s.TablesFormed → ∀ i,
      (u.merchant i).position.redeemed = (s.merchant i).position.redeemed ∧
      (u.merchant i).position.sponsorCost = (s.merchant i).position.sponsorCost ∧
      (u.merchant i).position.feeUnits = (s.merchant i).position.feeUnits ∧
      (u.merchant i).position.captureCount = (s.merchant i).position.captureCount ∧
      (u.merchant i).position.sold = (s.merchant i).position.sold ∧
      (u.merchant i).position.refunded = (s.merchant i).position.refunded)

/-! ### Merchants and fees -/

/-- MERCHANT_SET lists an UNLISTED index afresh, and updates a listed one, staging a schedule number that differs; MERCHANT_REMOVE
makes an index with no holds, position or promotions UNLISTED. Every other record stays. The bytes of the dispositions, CREATED 0
and UPDATED 1, REMOVED 0 and NONE 1, are log entry 7's, and an absent next schedule number log entry 17's (both DEDUCED). -/
def Obligations.MerchantRequestsWriteRecord : Prop :=
  ∀ (s : State) (f : Frame) (i st sc al ref : Nat), s.TablesFormed → i < 512 →
    (s.InProgress f (.merchantSet i st sc al ref) → (st = 1 ∨ st = 2) → (i = 0 → st = 1) → sc < 8 → al ≤ 1000000 →
      let m := s.merchant i
      let state : MerchantState := if st = 1 then .active else .suspended
      let new : Merchant :=
        if m.state = .unlisted then ⟨state, (if i = 0 then 0 else sc), none, al, ref, 0, 0, Position.zero⟩
        else { m with
          state := state, allowance := al, payoutRef := ref
          nextSchedule := if i = 0 ∨ sc = m.schedule then none else some sc }
      ∃ u : State,
        exec .merchantSet s = .next (u.completeRequest f
          ⟨.ok, field 1 (if m.state = .unlisted then 0 else 1) ++ field 1 st ++ field 2 new.schedule
            ++ fieldBytes 2 new.nextSchedule ++ field 4 al ++ field 4 ref⟩) ∧
        u = { s with merchants := u.merchants } ∧ u.merchant i = new ∧
        (∀ j, j ≠ i → u.merchant j = s.merchant j)) ∧
    (s.InProgress f (.merchantRemove i) → i ≠ 0 → (s.merchant i).openHolds = 0 →
      (s.merchant i).position = Position.zero → (s.merchant i).sponsored = 0 →
      ∃ u : State,
        exec .merchantRemove s = .next (u.completeRequest f
          ⟨.ok, [1#8, 0#8] ++ field 1 (if (s.merchant i).state = .unlisted then 1 else 0)⟩) ∧
        u = { s with merchants := u.merchants } ∧ u.merchant i = Merchant.unlisted ∧
        (∀ j, j ≠ i → u.merchant j = s.merchant j)) ∧
    (s.InProgress f (.merchantRemove i) →
      (i ≠ 0 ∧ ((s.merchant i).openHolds ≠ 0 ∨ (s.merchant i).position ≠ Position.zero ∨ (s.merchant i).sponsored ≠ 0)) →
      exec .merchantRemove s = .next (s.completeRequest f (refuse .wrongState)))

/-- MERCHANT_READ, CLOSED_READ, SCHEDULE_READ, PERIOD_STATUS and CONFIG_READ answer what they read and change nothing; CLOSED_READ
of an EMPTY snapshot answers WRONG_STATE; CONFIG_READ in UNFORMATTED answers the defaults without a grant. The bytes of a staged
copy that is absent are log entry 6's, and those of the other absent fields log entry 17's (both DEDUCED). -/
def Obligations.ReadsChangeNothing : Prop :=
  ∀ (s : State) (f : Frame) (i : Nat),
    (s.InProgress f (.merchantRead i) → i < 512 → exec .merchantRead s = .next (s.completeRequest f
      ⟨.ok, merchantBody (s.merchant i) s.period.number⟩)) ∧
    (s.InProgress f (.closedRead i) → i < 512 → s.period.snapshot.state ≠ .empty →
      exec .closedRead s = .next (s.completeRequest f
        ⟨.ok, closedBody s.period.snapshot (s.period.snapshot.closedAt i)⟩)) ∧
    (s.InProgress f (.closedRead i) → i < 512 → s.period.snapshot.state = .empty →
      exec .closedRead s = .next (s.completeRequest f (refuse .wrongState))) ∧
    (s.InProgress f (.scheduleRead i) → i < 8 → exec .scheduleRead s = .next (s.completeRequest f
      ⟨.ok, field 2 i ++ scheduleBytes (some (s.schedule i).active) ++ scheduleBytes (s.schedule i).staged
        ++ field 2 s.period.number⟩)) ∧
    (s.InProgress f .periodStatus → exec .periodStatus s = .next (s.completeRequest f ⟨.ok, s.periodBody⟩)) ∧
    (s.InProgress f .configRead → exec .configRead s = .next (s.completeRequest f ⟨.ok, settingsBody s.settings⟩)) ∧
    (∀ rest, f.request = some .configRead → s.Next f rest → s.store.state = .unformatted →
      exec .configRead s = .next ((s.taken rest).completeTaken f ⟨.ok, settingsBody Settings.default⟩))

/-- SCHEDULE_STAGE writes or withdraws the staged copy of the schedule named, and leaves its active copy and everything else. The
bytes of the dispositions, STAGED 0 to NONE 3, are log entry 7's, and those of an absent copy log entry 6's (both DEDUCED). -/
def Obligations.ScheduleStageWritesStagedCopy : Prop :=
  ∀ (s : State) (f : Frame) (n : Nat) (c : Schedule), s.TablesFormed → n < 8 →
    (s.InProgress f (.scheduleWrite n c) → c.inRange = true →
      ∃ u : State,
        exec .scheduleStageWrite s = .next (u.completeRequest f
          ⟨.ok, field 2 n ++ field 1 (if (s.schedule n).staged = none then 0 else 1) ++ scheduleBytes (some c)⟩) ∧
        u = { s with schedules := u.schedules } ∧ u.schedule n = ⟨(s.schedule n).active, some c⟩ ∧
        (∀ k, k ≠ n → u.schedule k = s.schedule k)) ∧
    (s.InProgress f (.scheduleClear n) →
      ∃ u : State,
        exec .scheduleStageClear s = .next (u.completeRequest f
          ⟨.ok, field 2 n ++ field 1 (if (s.schedule n).staged = none then 3 else 2) ++ scheduleBytes none⟩) ∧
        u = { s with schedules := u.schedules } ∧ u.schedule n = ⟨(s.schedule n).active, none⟩ ∧
        (∀ k, k ≠ n → u.schedule k = s.schedule k))

/-- The fee units of a take do not depend on how its volume is divided, and each cent is charged the rate of the one tier it lies
in. A FEE is never greater than REDEEMED, nor than the schedule's cap when the cap is not 0 (the twelfth law of the device); below
both it is the rounded variable fee and the fixed fee of each capture. -/
def Obligations.FeeArithmetic : Prop :=
  ∀ (c : Schedule) (p : Position) (v a b : Nat),
    tierSplit c v (a + b) = tierSplit c v a + tierSplit c (v + a) b ∧
    tierSplit c v 1 =
      (if v < c.t1 then c.r0 else if v < max c.t2 c.t1 then c.r1
       else if v < max c.t3 (max c.t2 c.t1) then c.r2 else c.r3) ∧
    feeOf c p ≤ p.redeemed ∧ (c.cap ≠ 0 → feeOf c p ≤ c.cap) ∧
    (let gross := (p.feeUnits + 5000) / 10000 + c.fixedFee * p.captureCount
     gross ≤ p.redeemed → (c.cap = 0 ∨ gross ≤ c.cap) → feeOf c p = gross)

/-! ### Periods and payout -/

/-- PERIOD_CUT makes a cut request to the flag; PERIOD_RELEASE of a PAID snapshot empties it and lets a deferred cut wait again;
a falling CUT_N edge makes a cut request while CUT_LINE is ON and none while it is OFF. That PERIOD_CUT answers the period number
of an EMPTY snapshot as an absent field is log entry 17 (DEDUCED). -/
def Obligations.PeriodRequestsMoveFlag : Prop :=
  ∀ (s : State) (f : Frame),
    let asked : CutPending := if s.period.cutPending = .none then .waiting else s.period.cutPending
    let freed : CutPending := if s.period.cutPending = .deferred then .waiting else s.period.cutPending
    let p := s.period.snapshot
    (s.InProgress f .periodCut → s.clock.isSet = true →
      exec .periodCut s = .next (({ s with period := { s.period with cutPending := asked } } : State).completeRequest f
        ⟨.ok, flagField (s.period.cutPending ≠ .none) ++ field 1 asked.value ++ field 1 p.state.value
          ++ fieldBytes 2 (if p.state = .empty then none else some p.period) ++ field 2 s.period.number⟩)) ∧
    (s.InProgress f .periodRelease → p.state = .paid →
      exec .periodRelease s = .next (({ s with period := { s.period with
          snapshot := Snapshot.blank, cutPending := freed } } : State).completeRequest f
        ⟨.ok, field 2 p.period ++ field 1 freed.value⟩)) ∧
    (s.InProgress f .periodRelease → p.state ≠ .paid →
      exec .periodRelease s = .next (s.completeRequest f (refuse .wrongState))) ∧
    (s.cfg.cutLine = true →
      exec .cutNEdge s = .next ({ s with period := { s.period with cutPending := asked } } : State).arbitrate) ∧
    (s.cfg.cutLine = false → exec .cutNEdge s = .next s)

/-- A unit of cut work with the snapshot EMPTY closes the period: positions copied with the schedule used and zeroed, staged
schedules applied, the next period opened, the counter reloaded, the flag NONE, and CUT_TAKEN delivered; with the snapshot not
EMPTY it defers and delivers CUT_DEFERRED. FEE is the fee close of each index but the operator's, which is 0; FEE_INCOME is the
sum of those fees at the operator, stopping at its maximum, and 0 elsewhere; NET is set to the nearer end when it lies outside 49
bits; and SATURATED is raised exactly when FEE_INCOME or a NET passes its range. No card or hold changes. -/
def Obligations.CutClosesOrDefers : Prop :=
  ∀ s : State, s.arbiter.holder = some .periodController → s.TablesFormed →
    let fee (i : Nat) (m : Merchant) : Nat := if i = 0 then 0 else feeOf (s.schedule m.schedule).active m.position
    let fees := (s.merchants.map (fun e => fee e.1 e.2)).sum
    let income (i : Nat) : Nat := if i = 0 then min 281474976710655 fees else 0
    let net (i : Nat) : Int :=
      let p := (s.merchant i).position
      (p.redeemed : Int) - p.refunded - p.sold - p.sponsorCost - fee i (s.merchant i) + p.breakage + income i
    let outside (i : Nat) : Prop := net i < -281474976710656 ∨ 281474976710655 < net i
    (s.period.snapshot.state ≠ .empty →
      exec .cut s = .next (((({ s with period := { s.period with cutPending := .deferred } } : State).deliver
        .cutDeferred)).completeUnit false)) ∧
    (s.period.snapshot.state = .empty →
      ∃ u : State, exec .cut s = .next ((u.deliver .cutTaken).completeUnit false) ∧
        u = { s with
          period := u.period, merchants := u.merchants, schedules := u.schedules
          link := { s.link with latched := u.link.latched } } ∧
        u.period.number = (if 65535 ≤ s.period.number then 1 else s.period.number + 1) ∧
        u.period.openDay = s.clock.day ∧ u.period.openingPaid = s.cards.paidOutstanding ∧
        u.period.counterValue = s.cfg.periodDays ∧
        u.period.counterState = (if s.cfg.periodDays = 0 then .stopped else .running) ∧
        u.period.cutPending = .none ∧
        u.period.snapshot.state = .closed ∧ u.period.snapshot.period = s.period.number ∧
        u.period.snapshot.openDay = s.period.openDay ∧ u.period.snapshot.cutDay = s.clock.day ∧
        u.period.snapshot.previousPaid = s.period.openingPaid ∧
        u.period.snapshot.thisPaid = s.cards.paidOutstanding ∧
        u.period.snapshot.thisPromo = s.cards.promoOutstanding ∧
        (∀ i, (u.period.snapshot.closedAt i).position = (s.merchant i).position ∧
          (u.period.snapshot.closedAt i).fee = fee i (s.merchant i) ∧
          (u.period.snapshot.closedAt i).feeIncome = income i ∧
          (u.period.snapshot.closedAt i).schedule = (s.merchant i).schedule ∧
          (u.period.snapshot.closedAt i).listed = ((s.merchant i).state ≠ .unlisted) ∧
          (u.period.snapshot.closedAt i).payoutRef = (s.merchant i).payoutRef ∧
          (u.period.snapshot.closedAt i).net = max (-281474976710656) (min 281474976710655 (net i)) ∧
          (u.merchant i) = { s.merchant i with
            position := Position.zero, nextSchedule := none
            schedule := (s.merchant i).nextSchedule.getD (s.merchant i).schedule }) ∧
        (∀ n, u.schedule n = ⟨(s.schedule n).staged.getD (s.schedule n).active, none⟩) ∧
        ((281474976710655 < fees ∨ ∃ i, outside i) → u.link.latched = s.link.latched ||| 2048#16) ∧
        (¬ (281474976710655 < fees ∨ ∃ i, outside i) → u.link.latched = s.link.latched))

/-- In a cut that saturates nothing, the fees cancel out of the nets: the sum of NET over all closed positions is the sum of
REDEEMED less REFUNDED, SOLD and SPONSOR_COST plus BREAKAGE over all open positions, on which the tenth law rests. -/
def Obligations.FeesCancelInNets : Prop :=
  ∀ s : State, s.TablesFormed → s.cutSaturates = false →
    (s.closedPositions.map (fun e => e.2.net)).sum =
      (s.merchants.map (fun e => (e.2.position.redeemed : Int) - e.2.position.refunded - e.2.position.sold
        - e.2.position.sponsorCost + e.2.position.breakage)).sum

/-- PAYOUT_START begins a run on a CLOSED snapshot; PAYOUT_ABORT ends a run, empties the queue and returns the snapshot to CLOSED;
WALKERS_HOLD and WALKERS_RESUME write the hold flag alone. Elsewhere both starts and aborts answer WRONG_STATE. -/
def Obligations.PayoutControlsAct : Prop :=
  ∀ (s : State) (f : Frame) (rest : List Frame),
    let p := s.period.snapshot
    let r := s.payout.run
    (s.InProgress f .payoutStart → p.state = .closed →
      exec .payoutStart s = .next (({ s with
          period := { s.period with snapshot := { p with state := .paying } }
          payout := { s.payout with run :=
            ⟨.walking, 0, s.cfg.payoutMode, p.period, p.previousPaid, p.thisPaid, 0, 0, 0, 0⟩ } } : State).completeRequest f
        ⟨.ok, field 2 p.period ++ field 1 s.cfg.payoutMode.value ++ flagField s.payout.holdFlag⟩)) ∧
    (s.InProgress f .payoutStart → p.state ≠ .closed →
      exec .payoutStart s = .next (s.completeRequest f (refuse .wrongState))) ∧
    (s.InProgress f .payoutAbort → p.state = .paying →
      exec .payoutAbort s = .next (({ s with
          period := { s.period with snapshot := { p with state := .closed } }
          payout := { s.payout with run := Run.idle, queue := [] } } : State).completeRequest f
        ⟨.ok, field 2 r.period ++ field 2 r.position ++ field 2 r.recordCount
          ++ field 2 s.payout.queue.length⟩)) ∧
    (s.InProgress f .payoutAbort → p.state ≠ .paying →
      exec .payoutAbort s = .next (s.completeRequest f (refuse .wrongState))) ∧
    (f.request = some .walkersHold → s.Next f rest → s.store.state = .ready →
      exec .walkersHold s = .next ((({ s with
          payout := { s.payout with holdFlag := true } } : State).taken rest).completeTaken f
        ⟨.ok, [1#8, 1#8] ++ field 1 r.state.value ++ field 2 r.position ++ field 1 s.sweep.pass.value⟩)) ∧
    (f.request = some .walkersResume → s.Next f rest → s.store.state = .ready →
      exec .walkersResume s = .next ((({ s with
          payout := { s.payout with holdFlag := false } } : State).taken rest).completeTaken f
        ⟨.ok, [1#8, 0#8] ++ field 1 r.state.value ++ field 2 r.position ++ field 1 s.sweep.pass.value⟩))

/-- A walk unit skips an unlisted closed position of zeros and appends a numbered record of every other, adding its NET to the
totals; it moves on by one index, and stalls on a full queue, and the rest of the run record stays. At position 512 the trailer carries the run's totals, and the
run is DRAINING. That the trailer is appended by a row of its own is log entry 20 (DESIGN CHOICE). -/
def Obligations.WalkerAppendsRecords : Prop :=
  ∀ s : State, s.payout.run.state = .walking →
    let r := s.payout.run
    let c := s.period.snapshot.closedAt r.position
    (s.arbiter.holder = some .payoutWalker → r.position < 512 → s.payout.queue.length < 32 → ∃ u : State,
      exec .walkUnit s = .next (u.completeUnit
        (r.mode = .burst ∧ u.walkerClaims = true ∧ s.store.parking = false)) ∧
      u = { s with payout := { s.payout with run := u.payout.run, queue := u.payout.queue } } ∧
      u.payout.run.position = r.position + 1 ∧
      u.payout.run.state = (if 32 ≤ u.payout.queue.length then .stalled else .walking) ∧
      (c = { ClosedPosition.blank with schedule := c.schedule, payoutRef := c.payoutRef } →
        u.payout.queue = s.payout.queue ∧ u.payout.run = { r with position := r.position + 1, state := u.payout.run.state }) ∧
      (c ≠ { ClosedPosition.blank with schedule := c.schedule, payoutRef := c.payoutRef } →
        u.payout.queue = s.payout.queue ++ [.record ⟨r.recordCount + 1, r.position, c.payoutRef,
          (if 0 < c.net then .credit else if c.net < 0 then .debit else .nil), c.net.natAbs, c.fee,
          c.position.redeemed, c.position.refunded, c.position.sold, c.position.sponsorCost, c.position.breakage,
          c.feeIncome, c.position.captureCount⟩] ∧
        u.payout.run = { r with
          position := r.position + 1, state := u.payout.run.state, recordCount := r.recordCount + 1
          credit := r.credit + c.net.toNat, debit := r.debit + (-c.net).toNat, net := r.net + c.net })) ∧
    (r.position = 512 → s.payout.holdFlag = false → s.payout.queue.length < 32 → s.store.state = .ready →
      s.store.parking = false →
      exec .trailerAppend s = .next ({ s with payout := { s.payout with
        run := { r with state := .draining }
        queue := s.payout.queue ++
          [.trailer ⟨r.period, r.recordCount, r.credit, r.debit, r.net, r.previousPaid, r.thisPaid⟩] } } : State).arbitrate)

/-- PAYOUT_READ removes and answers the four oldest entries, or all; a STALLED run that loses one walks again; the removal of the
trailer makes the run IDLE with its record at zero and the snapshot PAID, and delivers PAYOUT_DONE. The entry-kind bytes of the
answer, RECORD 0 and TRAILER 1, are log entry 7's, and the bytes of its list log entry 6's (both DEDUCED). -/
def Obligations.PayoutReadRemovesOldest : Prop :=
  ∀ (s : State) (f : Frame) (rest : List Frame), f.request = some .payoutRead → s.Next f rest →
    s.store.state = .ready →
    let removed := s.payout.queue.take 4
    let left := s.payout.queue.drop 4
    let body := listBytes (removed.map payoutEntryBytes)
    ((∀ e ∈ removed, e.isTrailer = false) →
      let state : RunState :=
        if s.payout.run.state = .stalled ∧ removed ≠ [] then .walking else s.payout.run.state
      exec .payoutRead s = .next ((({ s with payout := { s.payout with
          queue := left, run := { s.payout.run with state := state } } } : State).taken rest).completeTaken f
        ⟨.ok, body ++ field 1 state.value ++ field 2 left.length⟩)) ∧
    ((∃ e ∈ removed, e.isTrailer = true) →
      let u := (({ s with
        payout := { s.payout with queue := left, run := Run.idle }
        period := { s.period with snapshot := { s.period.snapshot with state := .paid } } } : State).taken rest).deliver .payoutDone
      u.payout.run = Run.idle ∧ u.period.snapshot.state = .paid ∧ u.period.cutPending = s.period.cutPending ∧
      exec .payoutRead s = .next (u.completeTaken f ⟨.ok, body ++ [1#8, 0#8] ++ field 2 left.length⟩))

/-! ### Clock, routes, sweep -/

/-- While the clock is UNSET its events change nothing. While it is SET: a TIMEREF edge advances in EXTERNAL and takes the source
back in FALLBACK; a divider second counts in EXTERNAL, passes to FALLBACK at the third with CLOCK_FALLBACK and an advance, and
advances in FALLBACK and INTERNAL. CLOCK_FALLBACK is that third second (log entry 5). An advance adds one to the second of day, from
86,399 to 0; a multiple of 60 makes a minute tick due, and ROLL_SECOND a day roll; that it makes them due, and their own rows
take them, is log entry 2 (DESIGN CHOICE), and the divider count in INTERNAL log entry 13 (DEDUCED). -/
def Obligations.ClockEventsAct : Prop :=
  ∀ s : State,
    (s.clock.isSet = false →
      exec .timerefEdge s = .next s ∧ exec .dividerSecond s = .next s ∧ exec .clockFallback s = .next s) ∧
    (s.clock.isSet = true → s.clock.source = .external →
      exec .timerefEdge s = .next (State.advance { s with clock := { s.clock with divider := 0 } }) ∧
      (s.clock.divider < 2 → exec .dividerSecond s =
        .next { s with clock := { s.clock with divider := s.clock.divider + 1 } }) ∧
      (s.clock.divider = 2 →
        let t := State.advance { s with
          clock := { s.clock with source := .fallback, divider := 3 }
          link := { s.link with latched := s.link.latched ||| 1024#16 } }
        exec .dividerSecond s = .next t ∧ exec .clockFallback s = .next t)) ∧
    (s.clock.isSet = true → s.clock.source = .fallback →
      exec .timerefEdge s = .next { s with clock := { s.clock with source := .external, divider := 0 } } ∧
      ∃ d, exec .dividerSecond s = .next (State.advance { s with clock := { s.clock with divider := d } })) ∧
    (s.clock.isSet = true → s.clock.source = .internal →
      exec .timerefEdge s = .next { s with clock := { s.clock with divider := 0 } } ∧
      ∃ d, exec .dividerSecond s = .next (State.advance { s with clock := { s.clock with divider := d } })) ∧
    (s.clock.second < 86400 → s.clock.rollDue = false → (s.hold.ticksDue = 0 ∨ s.arbiter.holder ≠ none) →
      let n := if s.clock.second = 86399 then 0 else s.clock.second + 1
      s.advance = { s with
        clock := { s.clock with second := n, rollDue := n = s.cfg.rollSecond }
        hold := { s.hold with ticksDue := s.hold.ticksDue + (if n % 60 = 0 then 1 else 0) } })

/-- A day roll that is due adds one to the day, stopping at 65,535, counts the RUNNING period counter down in READY, requests a cut
when it comes to 0, and delivers DAY_ROLL; PERIOD_COUNTER_EXPIRY is such a roll at counter value 1 (log entry 5). With none due
nothing changes. -/
def Obligations.DayRollStepsDay : Prop :=
  ∀ s : State,
    (s.clock.rollDue = false → exec .dayRoll s = .next s) ∧
    (s.clock.rollDue = true →
      let rolled : State := { s with clock := { s.clock with day := min (s.clock.day + 1) 65535, rollDue := false } }
      let asked : CutPending := if s.period.cutPending = .none then .waiting else s.period.cutPending
      (s.store.state = .ready → s.period.counterState = .running → 1 < s.period.counterValue →
        exec .dayRoll s = .next ((({ rolled with
          period := { s.period with counterValue := s.period.counterValue - 1 } } : State).deliver .dayRoll).arbitrate)) ∧
      (s.store.state = .ready → s.period.counterState = .running → s.period.counterValue ≤ 1 →
        let t := (({ rolled with
          period := { s.period with counterValue := 0, counterState := .expired, cutPending := asked } } : State).deliver
            .dayRoll).arbitrate
        exec .dayRoll s = .next t ∧ exec .periodCounterExpiry s = .next t) ∧
      ((s.store.state ≠ .ready ∨ s.period.counterState ≠ .running) →
        exec .dayRoll s = .next (rolled.deliver .dayRoll).arbitrate))

/-- The Event Router delivers an event to the destination of its source's entry: nowhere, to the condition of its name, to a pass
start, which acts when the store is READY and the clock SET (R166), or to a run start, which acts when the store is READY and the
snapshot CLOSED (R144). -/
def Obligations.RouterDelivers : Prop :=
  ∀ (s : State) (e : EventSource), s.EventOnly (s.deliver e) ∧
    (s.routes.of e ≠ .attention → (s.deliver e).link = s.link) ∧
    (s.routes.of e = .none → s.deliver e = s) ∧
    (s.routes.of e = .attention → s.deliver e = s.raise e.condition) ∧
    (s.routes.of e = .sweepStart →
      (s.store.state ≠ .ready ∨ s.clock.isSet = false → s.deliver e = s) ∧
      (s.store.state = .ready → s.clock.isSet = true → s.sweep.pass = .idle → s.deliver e =
        { s with sweep := ⟨.sweeping, 0, false, s.cfg.sweepMode, s.cfg.sweepBlock⟩ }) ∧
      (s.store.state = .ready → s.clock.isSet = true → s.sweep.pass = .sweeping → s.deliver e =
        { s with sweep := { s.sweep with passPending := true } })) ∧
    (s.routes.of e = .payoutStart →
      (s.store.state ≠ .ready ∨ s.period.snapshot.state ≠ .closed → s.deliver e = s) ∧
      (s.store.state = .ready → s.period.snapshot.state = .closed → s.deliver e = s.startRun))

/-- An accepted SET_CLOCK loads day and second, makes the clock SET and the divider count 0, and leaves the source state; a lower day
than the current one of a SET clock, and a value out of range, are refused with BAD_VALUE. The byte of the clock-set flag in the
answer, SET 0 and UNSET 1, is log entry 7's (DEDUCED). -/
def Obligations.SetClockLoads : Prop :=
  ∀ (s : State) (f : Frame) (d n : Nat), s.InProgress f (.setClock d n) → s.clock.rollDue = false →
    (d ≤ 65535 → n ≤ 86399 → (s.clock.isSet = true → s.clock.day ≤ d) →
      exec .setClock s = .next (({ s with
          clock := { s.clock with day := d, second := n, isSet := true, divider := 0 } } : State).completeRequest f
        ⟨.ok, field 2 d ++ field 4 n ++ field 1 (clockSetValue s.clock.isSet)⟩)) ∧
    ((65535 < d ∨ 86399 < n ∨ s.clock.isSet = true ∧ d < s.clock.day) →
      exec .setClock s = .next (s.completeRequest f (refuse .badValue)))

/-- ROUTE_SET writes one entry of the working and the stored route table, or none, and answers the whole table; a value that names
no source or destination is refused with BAD_VALUE. The bytes of the destinations are log entry 7's, and the count byte before
the five pairs of the answer log entry 6's (both DEDUCED). -/
def Obligations.RouteSetWritesEntry : Prop :=
  ∀ (s : State) (f : Frame) (rest : List Frame), s.Next f rest → s.store.state = .ready →
    (f.request = some (.routeSet none) →
      exec .routeSet s = .next ((s.taken rest).completeTaken f ⟨.ok, routesBody s.routes⟩)) ∧
    (∀ so de e d, f.request = some (.routeSet (some (so, de))) → eventSourceOf so = some e → destinationOf de = some d →
      ∃ u : State, exec .routeSet s = .next ((u.taken rest).completeTaken f ⟨.ok, routesBody u.routes⟩) ∧
        u = { s with routes := u.routes, storedRoutes := u.storedRoutes } ∧
        u.routes.of e = d ∧ u.storedRoutes.of e = d ∧
        (∀ k, k ≠ e → u.routes.of k = s.routes.of k ∧ u.storedRoutes.of k = s.storedRoutes.of k)) ∧
    (∀ so de, f.request = some (.routeSet (some (so, de))) → (eventSourceOf so = none ∨ destinationOf de = none) →
      exec .routeSet s = .next ((s.taken rest).completeTaken f (refuse .badValue)))

/-- An accepted SWEEP_START begins a pass in IDLE, marks one pending in SWEEPING, and merges with one already pending; it answers the
disposition and the pass as it then stands. It is refused, in this order, for a malformed frame, a store not READY and a clock UNSET.
The bytes of the dispositions, STARTED 0, PENDING 1 and MERGED 2, are log entry 7's (DEDUCED). -/
def Obligations.SweepStartStartsOrMarks : Prop :=
  ∀ (s : State) (f : Frame),
    (s.engine.current = some f → s.arbiter.holder = some .requestEngine → kindOf f.kind = some .sweepStart →
      f.request = none → exec .sweepStart s = .next (s.completeRequest f (refuse .badRequest))) ∧
    (∀ rest, s.Next f rest → f.request = some .sweepStart → (s.store.state = .mounting ∨ s.store.state = .unformatted) →
      exec .sweepStart s = .next ((s.taken rest).completeTaken f (refuse .notReady))) ∧
    (s.InProgress f .sweepStart →
      (s.clock.isSet = false → exec .sweepStart s = .next (s.completeRequest f (refuse .clockUnset))) ∧
      (s.clock.isSet = true → s.sweep.pass = .idle →
        exec .sweepStart s = .next (({ s with
            sweep := ⟨.sweeping, 0, false, s.cfg.sweepMode, s.cfg.sweepBlock⟩ } : State).completeRequest f
          ⟨.ok, field 1 0 ++ field 1 1 ++ field 4 0 ++ field 1 0⟩)) ∧
      (s.clock.isSet = true → s.sweep.pass = .sweeping →
        exec .sweepStart s = .next (({ s with sweep := { s.sweep with passPending := true } } : State).completeRequest f
          ⟨.ok, field 1 (if s.sweep.passPending then 2 else 1) ++ field 1 1 ++ field 4 s.sweep.position ++ field 1 1⟩)))

/-- A sweep unit visits each of the next occupied slots once, in order, at most a block of them: an unvisited slot stays, a visited
card is expired, its expiry posted, or when dormant retired. The position moves to the slot after the last slot examined, which is
the last one visited when the block is full; the unit that examines the last slot ends the pass or begins a pending one, and
delivers SWEEP_DONE. Nothing else differs. -/
def Obligations.SweepUnitVisitsBlock : Prop :=
  ∀ s : State, s.TablesFormed → s.arbiter.holder = some .expirySweep → s.sweep.pass = .sweeping → 1 ≤ s.sweep.block →
    ∃ (w : State) (visits : List Nat) (stop : Nat),
      let p := s.postAll (s.expiryOf visits)
      let u : State := if stop < 131072 then { w with sweep := { s.sweep with position := stop } }
        else ({ w with sweep := if s.sweep.passPending then ⟨.sweeping, 0, false, s.cfg.sweepMode, s.cfg.sweepBlock⟩
          else { s.sweep with pass := .idle, position := 0 } } : State).deliver .sweepDone
      exec .sweepUnit s = .next (u.completeUnit
        (s.sweep.mode = .burst ∧ stop < 131072 ∧ u.sweepClaims = true ∧ s.store.parking = false)) ∧
      visits.length ≤ s.sweep.block ∧ visits.Pairwise (· < ·) ∧
      (∀ j, j ∈ visits ↔ s.sweep.position ≤ j ∧ j < stop ∧ s.cardAt j ≠ none) ∧
      (visits.length = s.sweep.block → visits.getLast? = some (stop - 1) ∧ 1 ≤ stop) ∧
      (visits.length < s.sweep.block → stop = 131072) ∧
      w = { p with cards := { p.cards with slots := w.cards.slots, directory := w.cards.directory } } ∧
      (∀ j, j ∉ visits → w.cardAt j = s.cardAt j) ∧
      (∀ j c, j ∈ visits → s.cardAt j = some c → w.cardAt j =
        (if c.state = .active ∧ lotsValue (expireLots s.today c.lots) = 0 ∧ c.openHolds = 0 ∧ s.cfg.dormantDays ≠ 0 ∧
            s.clock.isSet = true ∧ c.lastActivity + s.cfg.dormantDays < s.clock.day
         then none else some { c with lots := expireLots s.today c.lots })) ∧
      (∀ j c, j ∈ visits → s.cardAt j = some c → w.cardAt j = none → tableFind w.cards.directory c.number = none) ∧
      (∀ n, (∀ j c, j ∈ visits → s.cardAt j = some c → w.cardAt j = none → c.number ≠ n) →
        tableFind w.cards.directory n = tableFind s.cards.directory n)

/-! ### Status, settings, store -/

/-- STATUS answers in every store state but PARKED when it is the oldest frame, no request is in progress and an answer place is
free, also while a park is under way (DEDUCED, log entry 12); it gives the reset cause once, and changes nothing else. STATUS_CLEAR in READY clears the
latched conditions named, and with WATCH_HIT the entry set, and answers the conditions that still stand. Neither counts its own
answer (DEDUCED, log entry 19). A level condition stands exactly while its queue holds an entry, and ATTN_N is low exactly while
some condition stands whose bit in the mask is clear; that a set bit masks is log entry 8 (DEDUCED). The bytes of the reset cause
and of the clock-set flag in the answer are log entry 7's (DEDUCED). -/
def Obligations.StatusReportsAndClears : Prop :=
  (∀ (s : State) (f : Frame) (rest : List Frame), s.Next f rest →
    (f.request = some .status →
      exec .status s = .next ((({ s with link := { s.link with resetCause := .none } } : State).taken rest).completeTaken f
        ⟨.ok, (s.taken rest).statusBody⟩)) ∧
    (∀ c, f.request = some (.statusClear c) → s.store.state = .ready → c < 65536 →
      ∃ u : State, exec .statusClear s = .next ((u.taken rest).completeTaken f ⟨.ok, field 2 u.conditions.toNat⟩) ∧
        u = { s with link := { s.link with latched := u.link.latched, watchHits := u.link.watchHits } } ∧
        (∀ i, u.link.latched.getLsbD i = (s.link.latched.getLsbD i && !c.testBit i)) ∧
        u.link.watchHits = (if c.testBit 9 then 0#8 else s.link.watchHits))) ∧
  (∀ s : State,
    (s.mayTake = true ↔ s.engine.current = none ∧ s.link.answers.length < 16 ∧ s.store.state ≠ .parked) ∧
    (s.stands .answerReady = true ↔ s.link.answers ≠ []) ∧
    (s.stands .payoutRecords = true ↔ s.payout.queue ≠ []) ∧
    (∀ c : Condition, c ≠ .answerReady → c ≠ .payoutRecords → s.stands c = s.link.latched.getLsbD c.bit) ∧
    (s.attentionLow = true ↔ ∃ c : Condition, s.stands c = true ∧ s.cfg.attentionMask.getLsbD c.bit = false))

/-- An accepted CONFIG writes the settings whose fields are present, clamped into their ranges, leaves the others, moves the clock's
source only when CLOCK_SOURCE changes, and answers every setting; an enumeration byte that names no value is refused with
BAD_VALUE. The divider count of 0 at a change to INTERNAL is log entry 13, and the mask kept with all its 16 bits log entry 8
(both DEDUCED). -/
def Obligations.ConfigClampsSettings : Prop :=
  ∀ (s : State) (f : Frame) (c : ConfigFields), s.InProgress f (.config c) →
    (c.named = false → exec .config s = .next (s.completeRequest f (refuse .badValue))) ∧
    (c.named = true → ∃ u : State,
      exec .config s = .next (u.completeRequest f ⟨.ok, settingsBody u.settings⟩) ∧
      u = { s with settings := u.settings, clock := u.clock } ∧
      u.clock = (if u.settings.clockInternal = s.settings.clockInternal then s.clock
        else { s.clock with
          source := if u.settings.clockInternal then .internal else .external, divider := 0 }) ∧
      u.settings.holdMinutes = (c.holdMinutes.map (fun v => max 1 (min v 1440))).getD s.settings.holdMinutes ∧
      u.settings.cardLimit = (c.cardLimit.map (fun v => max 1000 (min v 1000000))).getD s.settings.cardLimit ∧
      u.settings.paidExpiryDays = (c.paidExpiryDays.map (fun v => min v 3650)).getD s.settings.paidExpiryDays ∧
      u.settings.dormantDays = (c.dormantDays.map (fun v => if v = 0 then 0 else max 30 (min v 3650))).getD
        s.settings.dormantDays ∧
      u.settings.periodDays = (c.periodDays.map (fun v => min v 31)).getD s.settings.periodDays ∧
      u.settings.cutLine = (c.cutLine.map (fun v => decide (v = 1))).getD s.settings.cutLine ∧
      u.settings.rollSecond = (c.rollSecond.map (fun v => min v 86399)).getD s.settings.rollSecond ∧
      u.settings.clockInternal = (c.clockSource.map (fun v => decide (v = 1))).getD s.settings.clockInternal ∧
      u.settings.payoutMode = (c.payoutMode.map (fun v => if v = 1 then .burst else .interleaved)).getD
        s.settings.payoutMode ∧
      u.settings.sweepMode = (c.sweepMode.map (fun v => if v = 1 then .burst else .interleaved)).getD
        s.settings.sweepMode ∧
      u.settings.sweepBlock = (c.sweepBlock.map (fun v => max 1 (min v 64))).getD s.settings.sweepBlock ∧
      u.settings.attentionMask = (c.attentionMask.map (BitVec.ofNat 16)).getD s.settings.attentionMask)

/-- An accepted FORMAT empties cards, watch list, schedules and snapshot, lists the operator alone, opens period 1 with counter value
1, sets the defaults, and makes the store READY with STORE_READY. With a park under way the store is left UNFORMATTED, and the row
PARK then makes it PARKED; that PARK is a command of its own is log entry 12 (DESIGN CHOICE). -/
def Obligations.FormatWritesStore : Prop :=
  ∀ (s : State) (f : Frame), s.engine.current = some f → f.request = some .format →
    s.arbiter.holder = some .requestEngine → s.store.state = .unformatted →
    ∃ u : State, exec .format s = .next (u.completeRequest f ⟨.ok, []⟩) ∧
      u.cards = ⟨[], [], 0, 0⟩ ∧ u.watch = [] ∧
      (∀ i, u.merchant i = if i = 0 then Merchant.operator else Merchant.unlisted) ∧
      (∀ n, u.schedule n = ScheduleEntry.blank) ∧
      u.period = ⟨1, 0, 0, 1, .running, .none, Snapshot.blank⟩ ∧
      u.settings = Settings.default ∧ u.cfg = Settings.default ∧ u.routes = Routes.default ∧
      u.storedRoutes = Routes.default ∧ u.clock = { s.clock with source := .external } ∧
      u.store.headerValid = true ∧
      (s.store.parking = false → u.store.state = .ready ∧ u.link.latched = s.link.latched ||| 4096#16) ∧
      (s.store.parking = true → u.store.state = .unformatted ∧ u.link = s.link) ∧
      u.hold = s.hold ∧ u.payout = s.payout ∧ u.sweep = s.sweep ∧ u.engine = s.engine ∧ u.arbiter = s.arbiter ∧
      u.pending = s.pending

/-- A device reset empties queues, conditions, holds, baskets, run and pass, unsets the clock, sets the reset cause, keeps every
stored record, and starts PARKED with POWER_GOOD low, UNFORMATTED with a header that is invalid or not read, MOUNTING otherwise.
The stored header stays, but for a FORMAT that the reset cuts off, which leaves it invalid. That the command says whether the
header reads back whole is log entry 14 (DESIGN CHOICE). -/
def Obligations.DeviceResetClearsVolatile : Prop :=
  ∀ (s : State) (kind : ResetKind) (reads : Bool), ∃ t : State, exec (.deviceReset kind reads) s = .next t ∧
    t.link.intake = [] ∧ t.link.answers = [] ∧ t.link.latched = 0#16 ∧ t.link.watchHits = 0#8 ∧
    t.link.resetCause = (match kind with
      | .powerOn => .powerOn
      | .resetLine => .resetLine) ∧
    t.engine.current = none ∧ t.arbiter = ⟨none, .expirySweep⟩ ∧
    t.hold = ⟨[], 1, [], 1, [], 0⟩ ∧
    t.clock.day = 0 ∧ t.clock.second = 0 ∧ t.clock.isSet = false ∧ t.clock.divider = 0 ∧
    t.period = { s.period with cutPending := .none } ∧
    t.payout = ⟨Run.idle, [], false⟩ ∧
    t.sweep = ⟨.idle, 0, false, .interleaved, 16⟩ ∧
    t.cards = s.cards ∧ t.watch = s.watch ∧ t.merchants = s.merchants ∧ t.schedules = s.schedules ∧
    t.settings = s.settings ∧ t.storedRoutes = s.storedRoutes ∧ t.pending = s.pending ∧
    t.store.parking = false ∧ t.store.powerGood = s.store.powerGood ∧
    t.store.headerValid = (s.store.headerValid && !s.formatting) ∧
    (s.formatting = true ↔ s.store.state = .unformatted ∧ ∃ f, s.engine.current = some f ∧ f.request = some .format) ∧
    t.store.state = (if s.store.powerGood = false then .parked
      else if t.store.headerValid = true ∧ reads = true then .mounting else .unformatted)

/-- A mount that completes leaves every card's held value returned and open-hold count 0, a CLOSING card ACTIVE or, at value 0,
retired, and each card's number in the directory; the totals hold the lots' sums, with SATURATED beyond a maximum; a PAYING
snapshot is CLOSED; an EXPIRED counter waits for a cut; the store is READY with STORE_READY. That the row MOUNT_COMPLETE works
through all five steps of R180 is log entry 4 (DESIGN CHOICE), and so are the single steps that a step on an empty queue makes; that
a cut requested during the mount stays pending is log entry 27 (DESIGN CHOICE). -/
def Obligations.MountCompletesReady : Prop :=
  (∀ s : State, s.TablesFormed → s.store.state = .mounting →
    (∀ e ∈ s.cards.slots, ∀ k ∈ s.cards.slots, e.2.number = k.2.number → e = k) →
    let lots := s.cards.slots.flatMap (fun e => e.2.lots)
    let valueOf (p : LotKey → Prop) [DecidablePred p] : Nat :=
      (lots.map (fun l => if p l.key then l.available + l.held else 0)).sum
    ∃ u : State, exec .mountComplete s = .next u.arbitrate ∧
      u.store.state = .ready ∧ u.stands .storeReady = true ∧
      (∀ j, u.cardAt j = (s.cardAt j).bind (fun c =>
        if c.state = .closing ∧ lotsValue c.lots = 0 then none
        else some { c with
          state := (if c.state = .closing then .active else c.state), openHolds := 0
          lots := c.lots.map (fun l => { l with available := l.available + l.held, held := 0 }) })) ∧
      (∀ n j, tableFind u.cards.directory n = some j ↔ ∃ c, u.cardAt j = some c ∧ c.number = n) ∧
      u.cards.paidOutstanding = min 281474976710655 (valueOf (fun k => k.kind = .paid)) ∧
      u.cards.promoOutstanding = min 281474976710655 (valueOf (fun k => k.kind = .promo)) ∧
      (∀ i, (u.merchant i).openHolds = 0 ∧
        (u.merchant i).sponsored =
          min 281474976710655 (valueOf (fun k => k.kind = .promo ∧ k.sponsor = some i)) ∧
        (u.merchant i).state = (s.merchant i).state ∧
        (u.merchant i).position = (s.merchant i).position) ∧
      (u.stands .saturated = true ↔ s.stands .saturated = true ∨
        281474976710655 < valueOf (fun k => k.kind = .paid) ∨ 281474976710655 < valueOf (fun k => k.kind = .promo) ∨
        ∃ i, 281474976710655 < valueOf (fun k => k.kind = .promo ∧ k.sponsor = some i)) ∧
      u.period.snapshot = { s.period.snapshot with
        state := if s.period.snapshot.state = .paying then .closed else s.period.snapshot.state } ∧
      u.period.cutPending = (if s.period.counterState = .expired then .waiting else s.period.cutPending) ∧
      u.routes = s.storedRoutes ∧ u.cfg = s.settings ∧
      u.clock = { s.clock with source := if s.settings.clockInternal then .internal else .external } ∧
      u.settings = s.settings ∧ u.schedules = s.schedules ∧ u.watch = s.watch) ∧
  (∀ s : State, s.pending = [] → s.store.state = .mounting → ∃ t : State, step s = .next t ∧ t.store.state = .mounting ∧
    t.hold = s.hold ∧ t.link = s.link ∧ t.period = (if s.store.mount = .snapshot then s.mountSnapshot.period else s.period) ∧
    (s.store.mount = .settings → t.store.mount = .cards 0 ∧ t.routes = s.storedRoutes ∧ t.cfg = s.settings ∧
      t.cards = { s.cards with directory := [] } ∧ t.merchants = s.merchants ∧
      t.clock.source = (if s.settings.clockInternal then .internal else .external)) ∧
    (∀ k, s.store.mount = .cards k → s.TablesFormed → t.merchants = s.merchants ∧
      ((∀ j, k ≤ j → s.cardAt j = none) → t.store.mount = .totals ∧ t.cards = s.cards) ∧
      (∀ j c, k ≤ j → s.cardAt j = some c → (∀ i, k ≤ i → i < j → s.cardAt i = none) →
        t.store.mount = .cards (j + 1) ∧ (∀ i, i ≠ j → t.cardAt i = s.cardAt i) ∧
        t.cardAt j = (if c.state = .closing ∧ lotsValue c.lots = 0 then none
          else some { c with
            state := (if c.state = .closing then .active else c.state), openHolds := 0
            lots := c.lots.map (fun l => { l with available := l.available + l.held, held := 0 }) }))) ∧
    (s.store.mount = .totals → t.store.mount = .merchants ∧ t.cards.slots = s.cards.slots ∧
      t.cards.paidOutstanding = min (kindValue .paid s.allLots) 281474976710655 ∧
      t.cards.promoOutstanding = min (kindValue .promo s.allLots) 281474976710655) ∧
    (s.store.mount = .merchants → s.TablesFormed → t.store.mount = .snapshot ∧ t.cards = s.cards ∧
      ∀ i, t.merchant i = { s.merchant i with openHolds := 0 }) ∧
    (s.store.mount = .snapshot → t.store.mount = .finished ∧ t.cards = s.cards ∧ t.merchants = s.merchants) ∧
    (s.store.mount = .finished → t = s))

/-- A fall of POWER_GOOD parks the store at once when no unit holds it, and otherwise lets the unit complete, after which PARK parks
it; nothing is granted from the fall on, and the intake frames are discarded as the store becomes PARKED. A rise, and a fall in
PARKED, change the input's level alone. That the row PARK is a command of its own, and that until it the intake stays and frames
that need no grant are served, is log entry 12 (DEDUCED and DESIGN CHOICE). -/
def Obligations.PowerFailParks : Prop :=
  ∀ s : State,
    (s.store.state ≠ .parked → s.store.parking = false → s.arbiter.holder = none →
      exec .powerGoodFall s = .next { s with
        store := { s.store with state := .parked, powerGood := false }, link := { s.link with intake := [] } }) ∧
    (s.store.state ≠ .parked → s.store.parking = false → s.arbiter.holder ≠ none →
      exec .powerGoodFall s = .next { s with
        store := { s.store with parking := true, powerGood := false } }) ∧
    (s.store.state = .parked ∨ s.store.parking = true →
      exec .powerGoodFall s = .next { s with store := { s.store with powerGood := false } }) ∧
    (s.store.parking = true → s.arbiter.holder = none →
      exec .park s = .next { s with
        store := { s.store with state := .parked, parking := false }, link := { s.link with intake := [] } }) ∧
    (exec .powerGoodRise s = .next { s with store := { s.store with powerGood := true } }) ∧
    ((s.store.parking = true ∨ s.store.state = .parked) → ∀ c, s.grantable c = false)
end

