-- ==== Sys2Proof/Laws/Cards.lean ====
section
/-! SUPPORT. What the lot operations of Sys2Proof/Machine/Cards.lean do to a card's lots. -/

namespace Sys2Proof.Machine

/-! ### Spend order (R7) -/

/-- Not sorting before is transitive: the order of R7 is a total preorder. -/
theorem sortsBefore_chain {a b c : LotKey} (h : sortsBefore b a = false) (k : sortsBefore c b = false) :
    sortsBefore c a = false := by
  revert h k
  unfold sortsBefore
  rcases a with ⟨ka, sa, ea⟩
  rcases b with ⟨kb, sb, eb⟩
  rcases c with ⟨kc, sc, ec⟩
  cases ka <;> cases kb <;> cases kc <;> cases ea <;> cases eb <;> cases ec <;> simp <;> omega

/-- Of two lots at most one sorts before the other. -/
theorem sortsBefore_asymm {a b : LotKey} (h : sortsBefore a b = true) : sortsBefore b a = false := by
  revert h
  unfold sortsBefore
  rcases a with ⟨ka, sa, ea⟩
  rcases b with ⟨kb, sb, eb⟩
  cases ka <;> cases kb <;> cases ea <;> cases eb <;> simp <;> omega

/-- The lots after an insertion are the lots before it and the new one. -/
theorem insertLot_perm (new : Lot) (lots : List Lot) : (insertLot new lots).Perm (new :: lots) := by
  induction lots with
  | nil => exact .refl _
  | cons l rest ih =>
    simp only [insertLot]
    split
    · exact .refl _
    · exact (ih.cons l).trans (.swap new l rest)

/-- A lot placed by R7 leaves the list in spend order. -/
theorem insertLot_ordered (new : Lot) (lots : List Lot)
    (h : lots.Pairwise (fun a b => sortsBefore b.key a.key = false)) :
    (insertLot new lots).Pairwise (fun a b => sortsBefore b.key a.key = false) := by
  induction lots with
  | nil => simp [insertLot]
  | cons l rest ih =>
    obtain ⟨hl, hr⟩ := List.pairwise_cons.mp h
    simp only [insertLot]
    split
    · next hs =>
      refine List.pairwise_cons.mpr ⟨fun x hx => ?_, h⟩
      rcases List.mem_cons.mp hx with rfl | hx
      · exact sortsBefore_asymm hs
      · exact sortsBefore_chain (sortsBefore_asymm hs) (hl x hx)
    · next hs =>
      refine List.pairwise_cons.mpr ⟨fun x hx => ?_, ih hr⟩
      rcases List.mem_cons.mp ((insertLot_perm new rest).mem_iff.mp hx) with rfl | hx
      · simpa using hs
      · exact hl x hx

/-! ### Expiry, removal of empty lots, and the draw of a sale (R9, R21, R65) -/

@[simp] theorem expireLot_key (today : Option Nat) (l : Lot) : (expireLot today l).key = l.key := by
  unfold expireLot
  split <;> rfl

@[simp] theorem expireLot_held (today : Option Nat) (l : Lot) : (expireLot today l).held = l.held := by
  unfold expireLot
  split <;> rfl

/-- Expiry keeps the lots formed. -/
theorem expireLots_formed (today : Option Nat) (lots : List Lot) (h : LotsFormed lots) :
    LotsFormed (expireLots today lots) := by
  refine ⟨?_, ?_, ?_, fun l hl => by simpa using (List.mem_filter.mp hl).2⟩
  · exact le_trans (List.length_filter_le _ _) (by simpa using h.few)
  · refine List.Nodup.sublist (List.filter_sublist.map _) ?_
    rw [List.map_map, show (fun x : Lot => x.key) ∘ expireLot today = (·.key) from funext (expireLot_key today)]
    exact h.distinct
  · refine List.Pairwise.filter _ ?_
    rw [List.pairwise_map]
    simpa using h.ordered

/-- Removing empty lots leaves the total available. -/
theorem dropEmpty_available (lots : List Lot) : lotsAvailable (dropEmpty lots) = lotsAvailable lots := by
  induction lots with
  | nil => rfl
  | cons l rest ih =>
    simp only [dropEmpty, List.filter_cons, lotsAvailable, List.map_cons, List.sum_cons] at *
    split
    · simp only [List.map_cons, List.sum_cons, ih]
    · next h =>
      rw [ih]
      simp only [decide_eq_true_eq] at h
      omega

/-- A draw within the available takes exactly the amount. -/
theorem drawLots_available (a : Nat) (lots : List Lot) (h : a ≤ lotsAvailable lots) :
    lotsAvailable (drawLots a lots) = lotsAvailable lots - a := by
  induction lots generalizing a with
  | nil => simp [lotsAvailable, drawLots]
  | cons l rest ih =>
    simp only [lotsAvailable, List.map_cons, List.sum_cons] at h
    have := ih (a - min a l.available) (by simp only [lotsAvailable]; omega)
    simp only [drawLots, lotsAvailable, List.map_cons, List.sum_cons] at *
    omega

end Sys2Proof.Machine
end

