-- ==== Sys2Proof/Laws/Tables.lean ====
section
/-! SUPPORT. Reading a table after a write, and the canonical form that every table operation keeps. -/

namespace Sys2Proof.Machine

variable {α : Type}

/-! ### Finding -/

theorem tableFind_insert_self (t : Table α) (i : Nat) (v : α) : tableFind (tableInsert t i v) i = some v := by
  induction t with
  | nil => simp [tableInsert, tableFind]
  | cons e rest ih =>
    obtain ⟨k, w⟩ := e
    by_cases h1 : i < k
    · simp [tableInsert, tableFind, h1]
    · by_cases h2 : i = k
      · simp [tableInsert, tableFind, h2]
      · simp [tableInsert, tableFind, h1, h2, Ne.symm h2, ih]

theorem tableFind_insert_ne (t : Table α) {i j : Nat} (v : α) (h : j ≠ i) :
    tableFind (tableInsert t i v) j = tableFind t j := by
  induction t with
  | nil => simp [tableInsert, tableFind, Ne.symm h]
  | cons e rest ih =>
    obtain ⟨k, w⟩ := e
    by_cases h1 : i < k
    · simp [tableInsert, tableFind, h1, Ne.symm h]
    · by_cases h2 : i = k
      · subst h2; simp [tableInsert, tableFind, Ne.symm h]
      · simp only [tableInsert, h1, h2, if_false, tableFind, ih]

theorem tableFind_none_of_lt (t : Table α) (i : Nat) (h : ∀ e ∈ t, i < e.1) : tableFind t i = none := by
  induction t with
  | nil => rfl
  | cons e rest ih =>
    obtain ⟨k, w⟩ := e
    have hk : i < k := h (k, w) (by simp)
    have hne : k ≠ i := by omega
    simp [tableFind, hne]
    exact ih (fun e he => h e (by simp [he]))

theorem tableFind_erase_self (t : Table α) (i : Nat) (h : tableWf t) : tableFind (tableErase t i) i = none := by
  induction t with
  | nil => rfl
  | cons e rest ih =>
    obtain ⟨k, w⟩ := e
    have hc := List.pairwise_cons.mp h
    by_cases h2 : k = i
    · subst h2
      simpa [tableErase] using tableFind_none_of_lt rest k (fun e he => hc.1 e he)
    · simpa [tableErase, tableFind, h2] using ih hc.2

theorem tableFind_erase_ne (t : Table α) {i j : Nat} (h : j ≠ i) :
    tableFind (tableErase t i) j = tableFind t j := by
  induction t with
  | nil => rfl
  | cons e rest ih =>
    obtain ⟨k, w⟩ := e
    by_cases h2 : k = i
    · subst h2; simp [tableErase, tableFind, Ne.symm h]
    · simp only [tableErase, h2, if_false, tableFind, ih]

/-! ### Membership -/

theorem mem_tableInsert {t : Table α} {i : Nat} {v : α} {e : Nat × α} (h : e ∈ tableInsert t i v) :
    e = (i, v) ∨ e ∈ t := by
  induction t with
  | nil => simpa [tableInsert] using h
  | cons x rest ih =>
    obtain ⟨k, w⟩ := x
    by_cases h1 : i < k
    · simpa [tableInsert, h1] using h
    · by_cases h2 : i = k
      · simp [tableInsert, h2] at h
        rcases h with h | h
        · exact .inl (by rw [h, h2])
        · exact .inr (by simp [h])
      · simp [tableInsert, h1, h2] at h
        rcases h with h | h
        · exact .inr (by simp [h])
        · rcases ih h with h | h
          · exact .inl h
          · exact .inr (by simp [h])

theorem mem_tableErase {t : Table α} {i : Nat} {e : Nat × α} (h : e ∈ tableErase t i) : e ∈ t := by
  induction t with
  | nil => exact h
  | cons x rest ih =>
    obtain ⟨k, w⟩ := x
    by_cases h2 : k = i
    · simp only [tableErase, h2, if_true] at h; simp [h]
    · simp only [tableErase, h2, if_false, List.mem_cons] at h
      rcases h with h | h
      · simp [h]
      · simp [ih h]

theorem mem_of_tableFind {t : Table α} {i : Nat} {v : α} (h : tableFind t i = some v) : (i, v) ∈ t := by
  induction t with
  | nil => simp [tableFind] at h
  | cons x rest ih =>
    obtain ⟨k, w⟩ := x
    by_cases h2 : k = i
    · simp [tableFind, h2] at h; simp [h, h2]
    · simp [tableFind, h2] at h; simp [ih h]

/-! ### The canonical form -/

theorem tableWf_insert (t : Table α) (i : Nat) (v : α) (h : tableWf t) : tableWf (tableInsert t i v) := by
  induction t with
  | nil => simp [tableWf, tableInsert]
  | cons x rest ih =>
    obtain ⟨k, w⟩ := x
    have hc := List.pairwise_cons.mp h
    by_cases h1 : i < k
    · simp only [tableInsert, h1, if_true]
      refine List.pairwise_cons.mpr ⟨fun e he => ?_, h⟩
      rcases List.mem_cons.mp he with he | he
      · subst he; exact h1
      · exact Nat.lt_trans h1 (hc.1 e he)
    · by_cases h2 : i = k
      · simp only [tableInsert, h2, if_true, if_false, lt_irrefl]
        exact List.pairwise_cons.mpr ⟨fun e he => hc.1 e he, hc.2⟩
      · simp only [tableInsert, h1, h2, if_false]
        refine List.pairwise_cons.mpr ⟨fun e he => ?_, ih hc.2⟩
        rcases mem_tableInsert he with he | he
        · subst he; show k < i; omega
        · exact hc.1 e he

theorem tableWf_erase (t : Table α) (i : Nat) (h : tableWf t) : tableWf (tableErase t i) := by
  induction t with
  | nil => exact h
  | cons x rest ih =>
    obtain ⟨k, w⟩ := x
    have hc := List.pairwise_cons.mp h
    by_cases h2 : k = i
    · simpa [tableErase, h2] using hc.2
    · simp only [tableErase, h2, if_false]
      exact List.pairwise_cons.mpr ⟨fun e he => hc.1 e (mem_tableErase he), ih hc.2⟩

theorem tableWf_map {β : Type} (f : Nat → α → β) (t : Table α) (h : tableWf t) :
    tableWf (t.map (fun e => (e.1, f e.1 e.2))) := List.pairwise_map.mpr h

theorem tableWfD_set [DecidableEq α] (d : α) (t : Table α) (i : Nat) (v : α) (h : tableWfD d t) :
    tableWfD d (tableSet d t i v) := by
  unfold tableSet
  split
  · exact ⟨tableWf_erase t i h.1, fun e he => h.2 e (mem_tableErase he)⟩
  · next hv =>
    refine ⟨tableWf_insert t i v h.1, fun e he => ?_⟩
    rcases mem_tableInsert he with he | he
    · subst he; exact hv
    · exact h.2 e he

theorem tableWfD_map [DecidableEq α] (d : α) (f : Nat → α → α) (t : Table α) (h : tableWfD d t) :
    tableWfD d (tableMap d f t) := by
  refine ⟨(tableWf_map f t h.1).filter _, fun e he => ?_⟩
  simpa using (List.mem_filter.mp he).2

/-! ### Reading after a write, with a default -/

theorem tableGet_set_self [DecidableEq α] (d : α) (t : Table α) (i : Nat) (v : α) (h : tableWf t) :
    tableGet d (tableSet d t i v) i = v := by
  unfold tableSet tableGet
  split
  · next hv => rw [tableFind_erase_self t i h, hv]; rfl
  · rw [tableFind_insert_self]; rfl

theorem tableGet_set_ne [DecidableEq α] (d : α) (t : Table α) {i j : Nat} (v : α) (h : j ≠ i) :
    tableGet d (tableSet d t i v) j = tableGet d t j := by
  unfold tableSet tableGet
  split
  · rw [tableFind_erase_ne t h]
  · rw [tableFind_insert_ne t v h]

end Sys2Proof.Machine
end

