-- ==== Sys2Proof/Laws/Merchants.lean ====
section
/-! SUPPORT. Reading tables after they are mapped and filtered, and what postings leave of the merchant records. -/

namespace Sys2Proof.Machine

/-! ### Tables -/

/-- In a table of rising numbers a record is found exactly when it stands there. -/
theorem tableFind_iff {α : Type} {t : Table α} (h : tableWf t) (i : Nat) (v : α) :
    tableFind t i = some v ↔ (i, v) ∈ t := by
  refine ⟨mem_of_tableFind, fun hm => ?_⟩
  induction t with
  | nil => simp at hm
  | cons e rest ih =>
    obtain ⟨hlt, hr⟩ := List.pairwise_cons.mp h
    rcases List.mem_cons.mp hm with rfl | hm
    · simp [tableFind]
    · have hne : e.1 ≠ i := Nat.ne_of_lt (hlt _ hm)
      simpa [tableFind, hne] using ih hr hm

/-- A record read from a table with a function applied to each record. -/
theorem tableFind_map {α β : Type} (t : Table α) (f : Nat → α → β) (i : Nat) :
    tableFind (t.map (fun e => (e.1, f e.1 e.2))) i = (tableFind t i).map (f i) := by
  induction t with
  | nil => rfl
  | cons e rest ih =>
    by_cases h : e.1 = i
    · subst h
      simp [tableFind]
    · simp [tableFind, h, ih]

/-- A record read from a table filtered by its records. -/
theorem tableFind_filter {α : Type} {t : Table α} (h : tableWf t) (g : α → Bool) (i : Nat) :
    tableFind (t.filter (fun e => g e.2)) i = (tableFind t i).filter g := by
  induction t with
  | nil => rfl
  | cons e rest ih =>
    obtain ⟨hlt, hr⟩ := List.pairwise_cons.mp h
    by_cases hk : e.1 = i
    · subst hk
      by_cases hg : g e.2 = true
      · simp [hg, tableFind, Option.filter]
      · have := tableFind_none_of_lt (rest.filter (fun e => g e.2)) e.1 (fun x hx => hlt x (List.mem_filter.mp hx).1)
        simp [hg, tableFind, Option.filter, this]
    · by_cases hg : g e.2 = true
      · simp [hg, tableFind, hk, ih hr]
      · simp [hg, tableFind, hk, ih hr]

/-- A record read from a mapped table with a default that the function keeps. -/
theorem tableGet_map {α : Type} [DecidableEq α] (d : α) (f : Nat → α → α) {t : Table α} (h : tableWf t) (i : Nat)
    (hd : f i d = d) : tableGet d (tableMap d f t) i = f i (tableGet d t i) := by
  unfold tableGet tableMap
  rw [tableFind_filter (tableWf_map f t h) (fun v => decide (v ≠ d)) i, tableFind_map]
  cases tableFind t i with
  | none => simp [hd]
  | some v => by_cases he : f i v = d <;> simp [Option.filter, he]

/-! ### Merchant records -/

theorem State.setMerchant_self {s : State} (h : tableWf s.merchants) (i : Nat) (m : Merchant) :
    (s.setMerchant i m).merchant i = m := tableGet_set_self _ _ _ _ h

theorem State.setMerchant_ne {s : State} {i j : Nat} (m : Merchant) (h : j ≠ i) :
    (s.setMerchant i m).merchant j = s.merchant j := tableGet_set_ne _ _ _ h

@[simp] theorem State.raiseIf_merchant (s : State) (b : Bool) (c : Condition) (i : Nat) :
    (s.raiseIf b c).merchant i = s.merchant i := by cases b <;> rfl

/-- A saturating sum is the lesser of the maximum and the exact sum. -/
theorem satAdd_eq_min (m v a : Nat) : satAdd m v a = min m (v + a) := by
  unfold satAdd
  split <;> omega

/-- The merchant table is formed, and every record has the state and open-hold count that it has in `s`. -/
def State.RecordsKept (s t : State) : Prop :=
  tableWfD Merchant.unlisted t.merchants ∧
    ∀ i, (t.merchant i).openHolds = (s.merchant i).openHolds ∧ (t.merchant i).state = (s.merchant i).state

/-- A write of one record that keeps its state and open-hold count, with a condition raised or not. -/
theorem State.setMerchant_kept {s : State} (h : tableWfD Merchant.unlisted s.merchants) (i : Nat) (m : Merchant)
    (b : Bool) (c : Condition) (ho : m.openHolds = (s.merchant i).openHolds) (hs : m.state = (s.merchant i).state) :
    s.RecordsKept ((s.setMerchant i m).raiseIf b c) := by
  refine ⟨?_, fun j => ?_⟩
  · have : ((s.setMerchant i m).raiseIf b c).merchants = tableSet Merchant.unlisted s.merchants i m := by
      cases b <;> rfl
    rw [this]
    exact tableWfD_set _ _ _ _ h
  · rw [State.raiseIf_merchant]
    by_cases hj : j = i
    · subst hj
      rw [State.setMerchant_self h.1]
      exact ⟨ho, hs⟩
    · rw [State.setMerchant_ne _ hj]
      exact ⟨rfl, rfl⟩

/-- A change outside the merchant table, with a condition raised or not. -/
theorem State.RecordsKept.of_eq {s u : State} (h : tableWfD Merchant.unlisted s.merchants) (b : Bool) (c : Condition)
    (hu : u.merchants = s.merchants) : s.RecordsKept (u.raiseIf b c) := by
  have : (u.raiseIf b c).merchants = s.merchants := by cases b <;> exact hu
  refine ⟨this ▸ h, fun j => ?_⟩
  have e : (u.raiseIf b c).merchant j = s.merchant j := congrArg (tableGet Merchant.unlisted · j) this
  rw [e]
  exact ⟨rfl, rfl⟩

/-- A posting keeps every merchant's state and open-hold count, and the table formed. -/
theorem State.post_kept (s : State) (p : Posting) (h : tableWfD Merchant.unlisted s.merchants) :
    s.RecordsKept (s.post p) := by
  cases p <;> simp only [State.post, State.postField, State.postSponsored, State.postFee, State.onMerchant]
  case feePart =>
    split
    · exact .of_eq h false .saturated rfl
    · exact State.setMerchant_kept h _ _ _ _ rfl rfl
  case paidDown => exact .of_eq h false .saturated rfl
  case promoDown => exact .of_eq h false .saturated rfl
  case paidUp => exact .of_eq h _ _ rfl
  case promoUp => exact .of_eq h _ _ rfl
  all_goals exact State.setMerchant_kept h _ _ _ _ rfl rfl

/-- Postings keep every merchant's state and open-hold count, and the table formed. -/
theorem State.postAll_kept (s : State) (ps : List Posting) (h : tableWfD Merchant.unlisted s.merchants) :
    s.RecordsKept (s.postAll ps) := by
  induction ps generalizing s with
  | nil => exact ⟨h, fun _ => ⟨rfl, rfl⟩⟩
  | cons p ps ih =>
    have hp := s.post_kept p h
    have hr := ih (s.post p) hp.1
    exact ⟨hr.1, fun i => ⟨(hr.2 i).1.trans (hp.2 i).1, (hr.2 i).2.trans (hp.2 i).2⟩⟩

end Sys2Proof.Machine
end

