-- ==== Sys2Proof/Laws/Books.lean ====
section
/-! SUPPORT. The sums of the books: what one record's write does to a sum over a table, the value of all lots as a sum over the
cards, and its bound, below which no total saturates (R11, R19, R103, R105). -/

namespace Sys2Proof.Machine

/-! ### A sum over the records of a table -/

section
variable {α : Type}

/-- The sum of `f` over the records of a table. -/
abbrev tableSum (f : α → Nat) (t : Table α) : Nat := (t.map (fun e => f e.2)).sum

/-- A record written under a number without one adds what it counts. -/
theorem tableSum_insert_new (f : α → Nat) {t : Table α} (h : tableWf t) {i : Nat} (v : α) (k : tableFind t i = none) :
    tableSum f (tableInsert t i v) = tableSum f t + f v := by
  induction t with
  | nil => simp [tableSum, tableInsert]
  | cons e rest ih =>
    obtain ⟨j, w⟩ := e
    by_cases h1 : i < j
    · simp only [tableInsert, h1, if_true, tableSum, List.map_cons, List.sum_cons]; omega
    · have h2 : j ≠ i := fun e => by simp [tableFind, e] at k
      have := ih (List.pairwise_cons.mp h).2 (by simpa [tableFind, h2] using k)
      simp only [tableInsert, h1, Ne.symm h2, if_false, tableSum, List.map_cons, List.sum_cons] at *
      omega

/-- A record written in place of another changes the sum by what the two count. -/
theorem tableSum_insert_old (f : α → Nat) {t : Table α} (h : tableWf t) {i : Nat} (v : α) {w : α}
    (k : tableFind t i = some w) : tableSum f (tableInsert t i v) + f w = tableSum f t + f v := by
  induction t with
  | nil => simp [tableFind] at k
  | cons e rest ih =>
    obtain ⟨j, u⟩ := e
    obtain ⟨hl, hr⟩ := List.pairwise_cons.mp h
    by_cases h2 : j = i
    · subst h2
      obtain rfl : u = w := by simpa [tableFind] using k
      simp only [tableInsert, lt_irrefl, if_true, if_false, tableSum, List.map_cons, List.sum_cons]; omega
    · have k : tableFind rest i = some w := by simpa [tableFind, h2] using k
      have h1 : ¬ i < j := fun c => absurd (hl _ (mem_of_tableFind k)) (Nat.lt_asymm c)
      have := ih hr k
      simp only [tableInsert, h1, Ne.symm h2, if_false, tableSum, List.map_cons, List.sum_cons] at *
      omega

/-- A record erased takes away what it counts. -/
theorem tableSum_erase (f : α → Nat) {t : Table α} {i : Nat} {w : α} (k : tableFind t i = some w) :
    tableSum f (tableErase t i) + f w = tableSum f t := by
  induction t with
  | nil => simp [tableFind] at k
  | cons e rest ih =>
    obtain ⟨j, u⟩ := e
    by_cases h2 : j = i
    · obtain rfl : u = w := by simpa [tableFind, h2] using k
      simp only [tableErase, h2, if_true, tableSum, List.map_cons, List.sum_cons]; omega
    · have := ih (by simpa [tableFind, h2] using k)
      simp only [tableErase, h2, if_false, tableSum, List.map_cons, List.sum_cons] at *
      omega

/-- A sum over a table whose records count at most `m` each, its numbers below `n`. -/
theorem tableSum_le (f : α → Nat) {t : Table α} (h : tableWf t) {m n : Nat} (hn : ∀ e ∈ t, e.1 < n)
    (hm : ∀ e ∈ t, f e.2 ≤ m) : tableSum f t ≤ n * m := by
  have length : t.length ≤ n := by
    have := List.Nodup.length_le_card (l := t.attach.map (fun e => (⟨e.1.1, hn e.1 e.2⟩ : Fin n)))
      (List.Nodup.map_on (by
        intro a _ b _ e
        have e : a.1.1 = b.1.1 := by simpa using e
        have := (tableFind_iff h a.1.1 a.1.2).mpr a.2
        rw [e, (tableFind_iff h b.1.1 b.1.2).mpr b.2] at this
        exact Subtype.ext (Prod.ext e (Option.some.inj this).symm)) (List.nodup_attach.mpr (h.imp (fun c e => by
          subst e; exact lt_irrefl _ c))))
    simpa using this
  have sum : tableSum f t ≤ t.length * m := by
    clear length hn h
    induction t with
    | nil => simp [tableSum]
    | cons e rest ih =>
      have a := hm e (by simp)
      have b := ih (fun x hx => hm x (by simp [hx]))
      simp only [tableSum, List.map_cons, List.sum_cons, List.length_cons, Nat.add_mul, Nat.one_mul] at *
      omega
  exact le_trans sum (Nat.mul_le_mul_right m length)

end

/-! ### The value of lots by their keys -/

/-- The value of the lots whose keys satisfy `p`; `kindValue` and `sponsoredValue` are of this form. -/
abbrev valueWhere (p : LotKey → Bool) (lots : List Lot) : Nat := lotsValue (lots.filter (fun l => p l.key))

theorem valueWhere_cons (p : LotKey → Bool) (l : Lot) (rest : List Lot) :
    valueWhere p (l :: rest) = (if p l.key then l.available + l.held else 0) + valueWhere p rest := by
  by_cases q : p l.key = true <;> simp [valueWhere, lotsValue, q]

theorem valueWhere_append (p : LotKey → Bool) (a b : List Lot) : valueWhere p (a ++ b) = valueWhere p a + valueWhere p b := by
  simp [valueWhere, lotsValue, List.filter_append]

theorem valueWhere_le (p : LotKey → Bool) (lots : List Lot) : valueWhere p lots ≤ lotsValue lots := by
  induction lots with
  | nil => simp [valueWhere, lotsValue]
  | cons l rest ih =>
    by_cases h : p l.key = true <;> simp [valueWhere, lotsValue, h] at * <;> omega

/-- The value of all lots is a sum over the cards. -/
theorem State.allLots_value (s : State) (p : LotKey → Bool) :
    valueWhere p s.allLots = tableSum (fun c => valueWhere p c.lots) s.cards.slots := by
  unfold State.allLots
  induction s.cards.slots with
  | nil => rfl
  | cons e rest ih =>
    rw [List.flatMap_cons, valueWhere_append, ih]
    rfl

/-- The value of all lots lies far below the maximum of the totals, so that no posting of it saturates. -/
theorem State.allLots_below {s : State} (h : s.TablesFormed) (k : ∀ e ∈ s.cards.slots, lotsValue e.2.lots ≤ 1000000)
    (p : LotKey → Bool) : valueWhere p s.allLots ≤ 131072000000 := by
  rw [s.allLots_value p]
  exact tableSum_le (n := 131072) (m := 1000000) _ h.slots h.slotRange (fun e he => le_trans (valueWhere_le p e.2.lots) (k e he))

/-- Removing empty lots leaves every value. -/
theorem valueWhere_dropEmpty (p : LotKey → Bool) (lots : List Lot) : valueWhere p (dropEmpty lots) = valueWhere p lots := by
  induction lots with
  | nil => rfl
  | cons l rest ih =>
    by_cases h : 0 < l.available + l.held
    · rw [show dropEmpty (l :: rest) = l :: dropEmpty rest by simp only [dropEmpty, List.filter_cons, h]; rfl,
        valueWhere_cons, valueWhere_cons, ih]
    · have z : l.available + l.held = 0 := Nat.eq_zero_of_not_pos h
      rw [show dropEmpty (l :: rest) = dropEmpty rest by simp only [dropEmpty, List.filter_cons, h]; rfl,
        valueWhere_cons, ih, z, ite_self, Nat.zero_add]

/-- Expiry takes away what the expired lots of each key had available (R21). -/
theorem valueWhere_expire (p : LotKey → Bool) (today : Option Nat) (lots : List Lot) :
    valueWhere p (expireLots today lots) +
      (lots.map (fun l => if p l.key && keyExpired today l.key then l.available else 0)).sum = valueWhere p lots := by
  rw [expireLots, valueWhere_dropEmpty]
  induction lots with
  | nil => rfl
  | cons l rest ih =>
    rw [List.map_cons, valueWhere_cons, valueWhere_cons, expireLot_key, List.map_cons, List.sum_cons, expireLot]
    by_cases q : p l.key = true <;> by_cases e : keyExpired today l.key = true <;> simp [q, e] at ih ⊢ <;> omega

/-- A reservation leaves every value (R10). -/
theorem valueWhere_reserve (p : LotKey → Bool) (a : Nat) (lots : List Lot) :
    valueWhere p (reserveLots a lots) = valueWhere p lots := by
  induction lots generalizing a with
  | nil => rfl
  | cons l rest ih =>
    rw [reserveLots, valueWhere_cons, valueWhere_cons, ih]
    split
    · simp only; omega
    · rfl

end Sys2Proof.Machine
end

