-- ==== Sys2Proof/Laws/Frames.lean ====
section
/-! SUPPORT. Reading and writing frames: bytes of a number, fields of a body, and the kind of the request a frame carries. -/

namespace Sys2Proof.Machine

/-! ### Bytes of a number (R190) -/

@[simp] theorem bytesOf_length (w n : Nat) : (bytesOf w n).length = w := by
  induction w generalizing n with
  | zero => rfl
  | succ w ih => simp [bytesOf, ih]

theorem numberFrom_bytesOf (w n acc : Nat) : numberFrom acc (bytesOf w n) = acc * 256 ^ w + n % 256 ^ w := by
  induction w generalizing acc with
  | zero => simp [bytesOf, numberFrom, Nat.mod_one]
  | succ w ih =>
    rw [bytesOf, numberFrom, ih, BitVec.toNat_ofNat]
    have h : n % 256 ^ (w + 1) = n % 256 ^ w + 256 ^ w * (n / 256 ^ w % 256) := by
      rw [pow_succ]; exact Nat.mod_mul
    rw [h, pow_succ]
    norm_num
    ring

/-- The number written in `w` bytes is read back when it fits them. -/
theorem numberOf_bytesOf (w n : Nat) (h : n < 256 ^ w) : numberOf (bytesOf w n) = n := by
  rw [numberOf, numberFrom_bytesOf, Nat.mod_eq_of_lt h]; simp

/-! ### The kind of a request -/

theorem kindOf_value (k : Kind) : kindOf k.value = some k := by cases k <;> rfl

/-- A request read under a kind is of that kind. -/
theorem requestOf_kind {k : Kind} {fields : List (Option Nat)} {r : Request} (h : requestOf k fields = some r) :
    r.kind = k := by
  cases k <;>
    simp only [requestOf, issueOf, loadOf, oneFieldOf, twoFieldsOf, fourFieldsOf, fiveFieldsOf, noFieldOf, watchSetOf,
      authorizeOf, basketOpenOf, scheduleStageOf, routeSetOf, configOf] at h <;>
    repeat' split at h
  all_goals first
    | (cases h; done)
    | (cases h; rfl)
    | (simp only [Option.map_eq_some_iff] at h; obtain ⟨_, _, rfl⟩ := h; rfl)

/-- The frame that carries a request carries its kind. -/
theorem Frame.kind_of_request {f : Frame} {r : Request} (h : f.request = some r) : kindOf f.kind = some r.kind := by
  unfold Frame.request at h
  cases hk : kindOf f.kind with
  | none => simp [hk] at h
  | some k =>
    simp only [hk, Option.bind_some, readRequest] at h
    cases hf : readFields k.widths f.body with
    | none => simp [hf] at h
    | some fields =>
      simp only [hf, Option.bind_some] at h
      rw [requestOf_kind h]

/-- A frame is taken by the row of its request's kind. -/
theorem Frame.isKind_of_request {f : Frame} {r : Request} (h : f.request = some r) : f.isKind r.kind = true := by
  simp [Frame.isKind, Frame.kind_of_request h]

end Sys2Proof.Machine
end

