-- ==== Sys2Proof/Laws/State.lean ====
section
/-! SUPPORT. What each named update of the state leaves as it is: one lemma per field, true by rfl. -/

namespace Sys2Proof.Machine

variable (s : State)

/-! `raise` changes link. -/
@[simp] theorem State.raise_engine (c : Condition) : (s.raise c).engine = s.engine := rfl
@[simp] theorem State.raise_arbiter (c : Condition) : (s.raise c).arbiter = s.arbiter := rfl
@[simp] theorem State.raise_store (c : Condition) : (s.raise c).store = s.store := rfl
@[simp] theorem State.raise_cards (c : Condition) : (s.raise c).cards = s.cards := rfl
@[simp] theorem State.raise_watch (c : Condition) : (s.raise c).watch = s.watch := rfl
@[simp] theorem State.raise_hold (c : Condition) : (s.raise c).hold = s.hold := rfl
@[simp] theorem State.raise_merchants (c : Condition) : (s.raise c).merchants = s.merchants := rfl
@[simp] theorem State.raise_schedules (c : Condition) : (s.raise c).schedules = s.schedules := rfl
@[simp] theorem State.raise_period (c : Condition) : (s.raise c).period = s.period := rfl
@[simp] theorem State.raise_payout (c : Condition) : (s.raise c).payout = s.payout := rfl
@[simp] theorem State.raise_sweep (c : Condition) : (s.raise c).sweep = s.sweep := rfl
@[simp] theorem State.raise_clock (c : Condition) : (s.raise c).clock = s.clock := rfl
@[simp] theorem State.raise_routes (c : Condition) : (s.raise c).routes = s.routes := rfl
@[simp] theorem State.raise_storedRoutes (c : Condition) : (s.raise c).storedRoutes = s.storedRoutes := rfl
@[simp] theorem State.raise_settings (c : Condition) : (s.raise c).settings = s.settings := rfl
@[simp] theorem State.raise_pending (c : Condition) : (s.raise c).pending = s.pending := rfl

/-! `recordWatchHit` changes link. -/
@[simp] theorem State.recordWatchHit_engine (e : Nat) : (s.recordWatchHit e).engine = s.engine := rfl
@[simp] theorem State.recordWatchHit_arbiter (e : Nat) : (s.recordWatchHit e).arbiter = s.arbiter := rfl
@[simp] theorem State.recordWatchHit_store (e : Nat) : (s.recordWatchHit e).store = s.store := rfl
@[simp] theorem State.recordWatchHit_cards (e : Nat) : (s.recordWatchHit e).cards = s.cards := rfl
@[simp] theorem State.recordWatchHit_watch (e : Nat) : (s.recordWatchHit e).watch = s.watch := rfl
@[simp] theorem State.recordWatchHit_hold (e : Nat) : (s.recordWatchHit e).hold = s.hold := rfl
@[simp] theorem State.recordWatchHit_merchants (e : Nat) : (s.recordWatchHit e).merchants = s.merchants := rfl
@[simp] theorem State.recordWatchHit_schedules (e : Nat) : (s.recordWatchHit e).schedules = s.schedules := rfl
@[simp] theorem State.recordWatchHit_period (e : Nat) : (s.recordWatchHit e).period = s.period := rfl
@[simp] theorem State.recordWatchHit_payout (e : Nat) : (s.recordWatchHit e).payout = s.payout := rfl
@[simp] theorem State.recordWatchHit_sweep (e : Nat) : (s.recordWatchHit e).sweep = s.sweep := rfl
@[simp] theorem State.recordWatchHit_clock (e : Nat) : (s.recordWatchHit e).clock = s.clock := rfl
@[simp] theorem State.recordWatchHit_routes (e : Nat) : (s.recordWatchHit e).routes = s.routes := rfl
@[simp] theorem State.recordWatchHit_storedRoutes (e : Nat) : (s.recordWatchHit e).storedRoutes = s.storedRoutes := rfl
@[simp] theorem State.recordWatchHit_settings (e : Nat) : (s.recordWatchHit e).settings = s.settings := rfl
@[simp] theorem State.recordWatchHit_pending (e : Nat) : (s.recordWatchHit e).pending = s.pending := rfl

/-! `clearConditions` changes link. -/
@[simp] theorem State.clearConditions_engine (c : BitVec 16) : (s.clearConditions c).engine = s.engine := rfl
@[simp] theorem State.clearConditions_arbiter (c : BitVec 16) : (s.clearConditions c).arbiter = s.arbiter := rfl
@[simp] theorem State.clearConditions_store (c : BitVec 16) : (s.clearConditions c).store = s.store := rfl
@[simp] theorem State.clearConditions_cards (c : BitVec 16) : (s.clearConditions c).cards = s.cards := rfl
@[simp] theorem State.clearConditions_watch (c : BitVec 16) : (s.clearConditions c).watch = s.watch := rfl
@[simp] theorem State.clearConditions_hold (c : BitVec 16) : (s.clearConditions c).hold = s.hold := rfl
@[simp] theorem State.clearConditions_merchants (c : BitVec 16) : (s.clearConditions c).merchants = s.merchants := rfl
@[simp] theorem State.clearConditions_schedules (c : BitVec 16) : (s.clearConditions c).schedules = s.schedules := rfl
@[simp] theorem State.clearConditions_period (c : BitVec 16) : (s.clearConditions c).period = s.period := rfl
@[simp] theorem State.clearConditions_payout (c : BitVec 16) : (s.clearConditions c).payout = s.payout := rfl
@[simp] theorem State.clearConditions_sweep (c : BitVec 16) : (s.clearConditions c).sweep = s.sweep := rfl
@[simp] theorem State.clearConditions_clock (c : BitVec 16) : (s.clearConditions c).clock = s.clock := rfl
@[simp] theorem State.clearConditions_routes (c : BitVec 16) : (s.clearConditions c).routes = s.routes := rfl
@[simp] theorem State.clearConditions_storedRoutes (c : BitVec 16) : (s.clearConditions c).storedRoutes = s.storedRoutes := rfl
@[simp] theorem State.clearConditions_settings (c : BitVec 16) : (s.clearConditions c).settings = s.settings := rfl
@[simp] theorem State.clearConditions_pending (c : BitVec 16) : (s.clearConditions c).pending = s.pending := rfl

/-! `answer` changes link. -/
@[simp] theorem State.answer_engine (f : Frame) (r : Reply) : (s.answer f r).engine = s.engine := rfl
@[simp] theorem State.answer_arbiter (f : Frame) (r : Reply) : (s.answer f r).arbiter = s.arbiter := rfl
@[simp] theorem State.answer_store (f : Frame) (r : Reply) : (s.answer f r).store = s.store := rfl
@[simp] theorem State.answer_cards (f : Frame) (r : Reply) : (s.answer f r).cards = s.cards := rfl
@[simp] theorem State.answer_watch (f : Frame) (r : Reply) : (s.answer f r).watch = s.watch := rfl
@[simp] theorem State.answer_hold (f : Frame) (r : Reply) : (s.answer f r).hold = s.hold := rfl
@[simp] theorem State.answer_merchants (f : Frame) (r : Reply) : (s.answer f r).merchants = s.merchants := rfl
@[simp] theorem State.answer_schedules (f : Frame) (r : Reply) : (s.answer f r).schedules = s.schedules := rfl
@[simp] theorem State.answer_period (f : Frame) (r : Reply) : (s.answer f r).period = s.period := rfl
@[simp] theorem State.answer_payout (f : Frame) (r : Reply) : (s.answer f r).payout = s.payout := rfl
@[simp] theorem State.answer_sweep (f : Frame) (r : Reply) : (s.answer f r).sweep = s.sweep := rfl
@[simp] theorem State.answer_clock (f : Frame) (r : Reply) : (s.answer f r).clock = s.clock := rfl
@[simp] theorem State.answer_routes (f : Frame) (r : Reply) : (s.answer f r).routes = s.routes := rfl
@[simp] theorem State.answer_storedRoutes (f : Frame) (r : Reply) : (s.answer f r).storedRoutes = s.storedRoutes := rfl
@[simp] theorem State.answer_settings (f : Frame) (r : Reply) : (s.answer f r).settings = s.settings := rfl
@[simp] theorem State.answer_pending (f : Frame) (r : Reply) : (s.answer f r).pending = s.pending := rfl

/-! `putCard` changes cards. -/
@[simp] theorem State.putCard_link (i : Nat) (c : Card) : (s.putCard i c).link = s.link := rfl
@[simp] theorem State.putCard_engine (i : Nat) (c : Card) : (s.putCard i c).engine = s.engine := rfl
@[simp] theorem State.putCard_arbiter (i : Nat) (c : Card) : (s.putCard i c).arbiter = s.arbiter := rfl
@[simp] theorem State.putCard_store (i : Nat) (c : Card) : (s.putCard i c).store = s.store := rfl
@[simp] theorem State.putCard_watch (i : Nat) (c : Card) : (s.putCard i c).watch = s.watch := rfl
@[simp] theorem State.putCard_hold (i : Nat) (c : Card) : (s.putCard i c).hold = s.hold := rfl
@[simp] theorem State.putCard_merchants (i : Nat) (c : Card) : (s.putCard i c).merchants = s.merchants := rfl
@[simp] theorem State.putCard_schedules (i : Nat) (c : Card) : (s.putCard i c).schedules = s.schedules := rfl
@[simp] theorem State.putCard_period (i : Nat) (c : Card) : (s.putCard i c).period = s.period := rfl
@[simp] theorem State.putCard_payout (i : Nat) (c : Card) : (s.putCard i c).payout = s.payout := rfl
@[simp] theorem State.putCard_sweep (i : Nat) (c : Card) : (s.putCard i c).sweep = s.sweep := rfl
@[simp] theorem State.putCard_clock (i : Nat) (c : Card) : (s.putCard i c).clock = s.clock := rfl
@[simp] theorem State.putCard_routes (i : Nat) (c : Card) : (s.putCard i c).routes = s.routes := rfl
@[simp] theorem State.putCard_storedRoutes (i : Nat) (c : Card) : (s.putCard i c).storedRoutes = s.storedRoutes := rfl
@[simp] theorem State.putCard_settings (i : Nat) (c : Card) : (s.putCard i c).settings = s.settings := rfl
@[simp] theorem State.putCard_pending (i : Nat) (c : Card) : (s.putCard i c).pending = s.pending := rfl

/-! `insertCard` changes cards. -/
@[simp] theorem State.insertCard_link (i : Nat) (c : Card) : (s.insertCard i c).link = s.link := rfl
@[simp] theorem State.insertCard_engine (i : Nat) (c : Card) : (s.insertCard i c).engine = s.engine := rfl
@[simp] theorem State.insertCard_arbiter (i : Nat) (c : Card) : (s.insertCard i c).arbiter = s.arbiter := rfl
@[simp] theorem State.insertCard_store (i : Nat) (c : Card) : (s.insertCard i c).store = s.store := rfl
@[simp] theorem State.insertCard_watch (i : Nat) (c : Card) : (s.insertCard i c).watch = s.watch := rfl
@[simp] theorem State.insertCard_hold (i : Nat) (c : Card) : (s.insertCard i c).hold = s.hold := rfl
@[simp] theorem State.insertCard_merchants (i : Nat) (c : Card) : (s.insertCard i c).merchants = s.merchants := rfl
@[simp] theorem State.insertCard_schedules (i : Nat) (c : Card) : (s.insertCard i c).schedules = s.schedules := rfl
@[simp] theorem State.insertCard_period (i : Nat) (c : Card) : (s.insertCard i c).period = s.period := rfl
@[simp] theorem State.insertCard_payout (i : Nat) (c : Card) : (s.insertCard i c).payout = s.payout := rfl
@[simp] theorem State.insertCard_sweep (i : Nat) (c : Card) : (s.insertCard i c).sweep = s.sweep := rfl
@[simp] theorem State.insertCard_clock (i : Nat) (c : Card) : (s.insertCard i c).clock = s.clock := rfl
@[simp] theorem State.insertCard_routes (i : Nat) (c : Card) : (s.insertCard i c).routes = s.routes := rfl
@[simp] theorem State.insertCard_storedRoutes (i : Nat) (c : Card) : (s.insertCard i c).storedRoutes = s.storedRoutes := rfl
@[simp] theorem State.insertCard_settings (i : Nat) (c : Card) : (s.insertCard i c).settings = s.settings := rfl
@[simp] theorem State.insertCard_pending (i : Nat) (c : Card) : (s.insertCard i c).pending = s.pending := rfl

/-! `renameCard` changes cards. -/
@[simp] theorem State.renameCard_link (i n : Nat) (c : Card) : (s.renameCard i n c).link = s.link := rfl
@[simp] theorem State.renameCard_engine (i n : Nat) (c : Card) : (s.renameCard i n c).engine = s.engine := rfl
@[simp] theorem State.renameCard_arbiter (i n : Nat) (c : Card) : (s.renameCard i n c).arbiter = s.arbiter := rfl
@[simp] theorem State.renameCard_store (i n : Nat) (c : Card) : (s.renameCard i n c).store = s.store := rfl
@[simp] theorem State.renameCard_watch (i n : Nat) (c : Card) : (s.renameCard i n c).watch = s.watch := rfl
@[simp] theorem State.renameCard_hold (i n : Nat) (c : Card) : (s.renameCard i n c).hold = s.hold := rfl
@[simp] theorem State.renameCard_merchants (i n : Nat) (c : Card) : (s.renameCard i n c).merchants = s.merchants := rfl
@[simp] theorem State.renameCard_schedules (i n : Nat) (c : Card) : (s.renameCard i n c).schedules = s.schedules := rfl
@[simp] theorem State.renameCard_period (i n : Nat) (c : Card) : (s.renameCard i n c).period = s.period := rfl
@[simp] theorem State.renameCard_payout (i n : Nat) (c : Card) : (s.renameCard i n c).payout = s.payout := rfl
@[simp] theorem State.renameCard_sweep (i n : Nat) (c : Card) : (s.renameCard i n c).sweep = s.sweep := rfl
@[simp] theorem State.renameCard_clock (i n : Nat) (c : Card) : (s.renameCard i n c).clock = s.clock := rfl
@[simp] theorem State.renameCard_routes (i n : Nat) (c : Card) : (s.renameCard i n c).routes = s.routes := rfl
@[simp] theorem State.renameCard_storedRoutes (i n : Nat) (c : Card) : (s.renameCard i n c).storedRoutes = s.storedRoutes := rfl
@[simp] theorem State.renameCard_settings (i n : Nat) (c : Card) : (s.renameCard i n c).settings = s.settings := rfl
@[simp] theorem State.renameCard_pending (i n : Nat) (c : Card) : (s.renameCard i n c).pending = s.pending := rfl

/-! `retireCard` changes cards. -/
@[simp] theorem State.retireCard_link (i n : Nat) : (s.retireCard i n).link = s.link := rfl
@[simp] theorem State.retireCard_engine (i n : Nat) : (s.retireCard i n).engine = s.engine := rfl
@[simp] theorem State.retireCard_arbiter (i n : Nat) : (s.retireCard i n).arbiter = s.arbiter := rfl
@[simp] theorem State.retireCard_store (i n : Nat) : (s.retireCard i n).store = s.store := rfl
@[simp] theorem State.retireCard_watch (i n : Nat) : (s.retireCard i n).watch = s.watch := rfl
@[simp] theorem State.retireCard_hold (i n : Nat) : (s.retireCard i n).hold = s.hold := rfl
@[simp] theorem State.retireCard_merchants (i n : Nat) : (s.retireCard i n).merchants = s.merchants := rfl
@[simp] theorem State.retireCard_schedules (i n : Nat) : (s.retireCard i n).schedules = s.schedules := rfl
@[simp] theorem State.retireCard_period (i n : Nat) : (s.retireCard i n).period = s.period := rfl
@[simp] theorem State.retireCard_payout (i n : Nat) : (s.retireCard i n).payout = s.payout := rfl
@[simp] theorem State.retireCard_sweep (i n : Nat) : (s.retireCard i n).sweep = s.sweep := rfl
@[simp] theorem State.retireCard_clock (i n : Nat) : (s.retireCard i n).clock = s.clock := rfl
@[simp] theorem State.retireCard_routes (i n : Nat) : (s.retireCard i n).routes = s.routes := rfl
@[simp] theorem State.retireCard_storedRoutes (i n : Nat) : (s.retireCard i n).storedRoutes = s.storedRoutes := rfl
@[simp] theorem State.retireCard_settings (i n : Nat) : (s.retireCard i n).settings = s.settings := rfl
@[simp] theorem State.retireCard_pending (i n : Nat) : (s.retireCard i n).pending = s.pending := rfl

/-! `setMerchant` changes merchants. -/
@[simp] theorem State.setMerchant_link (i : Nat) (m : Merchant) : (s.setMerchant i m).link = s.link := rfl
@[simp] theorem State.setMerchant_engine (i : Nat) (m : Merchant) : (s.setMerchant i m).engine = s.engine := rfl
@[simp] theorem State.setMerchant_arbiter (i : Nat) (m : Merchant) : (s.setMerchant i m).arbiter = s.arbiter := rfl
@[simp] theorem State.setMerchant_store (i : Nat) (m : Merchant) : (s.setMerchant i m).store = s.store := rfl
@[simp] theorem State.setMerchant_cards (i : Nat) (m : Merchant) : (s.setMerchant i m).cards = s.cards := rfl
@[simp] theorem State.setMerchant_watch (i : Nat) (m : Merchant) : (s.setMerchant i m).watch = s.watch := rfl
@[simp] theorem State.setMerchant_hold (i : Nat) (m : Merchant) : (s.setMerchant i m).hold = s.hold := rfl
@[simp] theorem State.setMerchant_schedules (i : Nat) (m : Merchant) : (s.setMerchant i m).schedules = s.schedules := rfl
@[simp] theorem State.setMerchant_period (i : Nat) (m : Merchant) : (s.setMerchant i m).period = s.period := rfl
@[simp] theorem State.setMerchant_payout (i : Nat) (m : Merchant) : (s.setMerchant i m).payout = s.payout := rfl
@[simp] theorem State.setMerchant_sweep (i : Nat) (m : Merchant) : (s.setMerchant i m).sweep = s.sweep := rfl
@[simp] theorem State.setMerchant_clock (i : Nat) (m : Merchant) : (s.setMerchant i m).clock = s.clock := rfl
@[simp] theorem State.setMerchant_routes (i : Nat) (m : Merchant) : (s.setMerchant i m).routes = s.routes := rfl
@[simp] theorem State.setMerchant_storedRoutes (i : Nat) (m : Merchant) : (s.setMerchant i m).storedRoutes = s.storedRoutes := rfl
@[simp] theorem State.setMerchant_settings (i : Nat) (m : Merchant) : (s.setMerchant i m).settings = s.settings := rfl
@[simp] theorem State.setMerchant_pending (i : Nat) (m : Merchant) : (s.setMerchant i m).pending = s.pending := rfl

/-! `onMerchant` changes merchants. -/
@[simp] theorem State.onMerchant_link (i : Nat) (g : Merchant → Merchant) : (s.onMerchant i g).link = s.link := rfl
@[simp] theorem State.onMerchant_engine (i : Nat) (g : Merchant → Merchant) : (s.onMerchant i g).engine = s.engine := rfl
@[simp] theorem State.onMerchant_arbiter (i : Nat) (g : Merchant → Merchant) : (s.onMerchant i g).arbiter = s.arbiter := rfl
@[simp] theorem State.onMerchant_store (i : Nat) (g : Merchant → Merchant) : (s.onMerchant i g).store = s.store := rfl
@[simp] theorem State.onMerchant_cards (i : Nat) (g : Merchant → Merchant) : (s.onMerchant i g).cards = s.cards := rfl
@[simp] theorem State.onMerchant_watch (i : Nat) (g : Merchant → Merchant) : (s.onMerchant i g).watch = s.watch := rfl
@[simp] theorem State.onMerchant_hold (i : Nat) (g : Merchant → Merchant) : (s.onMerchant i g).hold = s.hold := rfl
@[simp] theorem State.onMerchant_schedules (i : Nat) (g : Merchant → Merchant) : (s.onMerchant i g).schedules = s.schedules := rfl
@[simp] theorem State.onMerchant_period (i : Nat) (g : Merchant → Merchant) : (s.onMerchant i g).period = s.period := rfl
@[simp] theorem State.onMerchant_payout (i : Nat) (g : Merchant → Merchant) : (s.onMerchant i g).payout = s.payout := rfl
@[simp] theorem State.onMerchant_sweep (i : Nat) (g : Merchant → Merchant) : (s.onMerchant i g).sweep = s.sweep := rfl
@[simp] theorem State.onMerchant_clock (i : Nat) (g : Merchant → Merchant) : (s.onMerchant i g).clock = s.clock := rfl
@[simp] theorem State.onMerchant_routes (i : Nat) (g : Merchant → Merchant) : (s.onMerchant i g).routes = s.routes := rfl
@[simp] theorem State.onMerchant_storedRoutes (i : Nat) (g : Merchant → Merchant) : (s.onMerchant i g).storedRoutes = s.storedRoutes := rfl
@[simp] theorem State.onMerchant_settings (i : Nat) (g : Merchant → Merchant) : (s.onMerchant i g).settings = s.settings := rfl
@[simp] theorem State.onMerchant_pending (i : Nat) (g : Merchant → Merchant) : (s.onMerchant i g).pending = s.pending := rfl

/-! `stageSchedule` changes schedules. -/
@[simp] theorem State.stageSchedule_link (n : Nat) (c : Option Schedule) : (s.stageSchedule n c).link = s.link := rfl
@[simp] theorem State.stageSchedule_engine (n : Nat) (c : Option Schedule) : (s.stageSchedule n c).engine = s.engine := rfl
@[simp] theorem State.stageSchedule_arbiter (n : Nat) (c : Option Schedule) : (s.stageSchedule n c).arbiter = s.arbiter := rfl
@[simp] theorem State.stageSchedule_store (n : Nat) (c : Option Schedule) : (s.stageSchedule n c).store = s.store := rfl
@[simp] theorem State.stageSchedule_cards (n : Nat) (c : Option Schedule) : (s.stageSchedule n c).cards = s.cards := rfl
@[simp] theorem State.stageSchedule_watch (n : Nat) (c : Option Schedule) : (s.stageSchedule n c).watch = s.watch := rfl
@[simp] theorem State.stageSchedule_hold (n : Nat) (c : Option Schedule) : (s.stageSchedule n c).hold = s.hold := rfl
@[simp] theorem State.stageSchedule_merchants (n : Nat) (c : Option Schedule) : (s.stageSchedule n c).merchants = s.merchants := rfl
@[simp] theorem State.stageSchedule_period (n : Nat) (c : Option Schedule) : (s.stageSchedule n c).period = s.period := rfl
@[simp] theorem State.stageSchedule_payout (n : Nat) (c : Option Schedule) : (s.stageSchedule n c).payout = s.payout := rfl
@[simp] theorem State.stageSchedule_sweep (n : Nat) (c : Option Schedule) : (s.stageSchedule n c).sweep = s.sweep := rfl
@[simp] theorem State.stageSchedule_clock (n : Nat) (c : Option Schedule) : (s.stageSchedule n c).clock = s.clock := rfl
@[simp] theorem State.stageSchedule_routes (n : Nat) (c : Option Schedule) : (s.stageSchedule n c).routes = s.routes := rfl
@[simp] theorem State.stageSchedule_storedRoutes (n : Nat) (c : Option Schedule) : (s.stageSchedule n c).storedRoutes = s.storedRoutes := rfl
@[simp] theorem State.stageSchedule_settings (n : Nat) (c : Option Schedule) : (s.stageSchedule n c).settings = s.settings := rfl
@[simp] theorem State.stageSchedule_pending (n : Nat) (c : Option Schedule) : (s.stageSchedule n c).pending = s.pending := rfl

/-! `setDivider` changes clock. -/
@[simp] theorem State.setDivider_link (n : Nat) : (s.setDivider n).link = s.link := rfl
@[simp] theorem State.setDivider_engine (n : Nat) : (s.setDivider n).engine = s.engine := rfl
@[simp] theorem State.setDivider_arbiter (n : Nat) : (s.setDivider n).arbiter = s.arbiter := rfl
@[simp] theorem State.setDivider_store (n : Nat) : (s.setDivider n).store = s.store := rfl
@[simp] theorem State.setDivider_cards (n : Nat) : (s.setDivider n).cards = s.cards := rfl
@[simp] theorem State.setDivider_watch (n : Nat) : (s.setDivider n).watch = s.watch := rfl
@[simp] theorem State.setDivider_hold (n : Nat) : (s.setDivider n).hold = s.hold := rfl
@[simp] theorem State.setDivider_merchants (n : Nat) : (s.setDivider n).merchants = s.merchants := rfl
@[simp] theorem State.setDivider_schedules (n : Nat) : (s.setDivider n).schedules = s.schedules := rfl
@[simp] theorem State.setDivider_period (n : Nat) : (s.setDivider n).period = s.period := rfl
@[simp] theorem State.setDivider_payout (n : Nat) : (s.setDivider n).payout = s.payout := rfl
@[simp] theorem State.setDivider_sweep (n : Nat) : (s.setDivider n).sweep = s.sweep := rfl
@[simp] theorem State.setDivider_routes (n : Nat) : (s.setDivider n).routes = s.routes := rfl
@[simp] theorem State.setDivider_storedRoutes (n : Nat) : (s.setDivider n).storedRoutes = s.storedRoutes := rfl
@[simp] theorem State.setDivider_settings (n : Nat) : (s.setDivider n).settings = s.settings := rfl
@[simp] theorem State.setDivider_pending (n : Nat) : (s.setDivider n).pending = s.pending := rfl

/-! `takeTicks` changes hold. -/
@[simp] theorem State.takeTicks_link : s.takeTicks.link = s.link := rfl
@[simp] theorem State.takeTicks_engine : s.takeTicks.engine = s.engine := rfl
@[simp] theorem State.takeTicks_arbiter : s.takeTicks.arbiter = s.arbiter := rfl
@[simp] theorem State.takeTicks_store : s.takeTicks.store = s.store := rfl
@[simp] theorem State.takeTicks_cards : s.takeTicks.cards = s.cards := rfl
@[simp] theorem State.takeTicks_watch : s.takeTicks.watch = s.watch := rfl
@[simp] theorem State.takeTicks_merchants : s.takeTicks.merchants = s.merchants := rfl
@[simp] theorem State.takeTicks_schedules : s.takeTicks.schedules = s.schedules := rfl
@[simp] theorem State.takeTicks_period : s.takeTicks.period = s.period := rfl
@[simp] theorem State.takeTicks_payout : s.takeTicks.payout = s.payout := rfl
@[simp] theorem State.takeTicks_sweep : s.takeTicks.sweep = s.sweep := rfl
@[simp] theorem State.takeTicks_clock : s.takeTicks.clock = s.clock := rfl
@[simp] theorem State.takeTicks_routes : s.takeTicks.routes = s.routes := rfl
@[simp] theorem State.takeTicks_storedRoutes : s.takeTicks.storedRoutes = s.storedRoutes := rfl
@[simp] theorem State.takeTicks_settings : s.takeTicks.settings = s.settings := rfl
@[simp] theorem State.takeTicks_pending : s.takeTicks.pending = s.pending := rfl

/-! `freeBasket` changes hold. -/
@[simp] theorem State.freeBasket_link (n : Nat) : (s.freeBasket n).link = s.link := rfl
@[simp] theorem State.freeBasket_engine (n : Nat) : (s.freeBasket n).engine = s.engine := rfl
@[simp] theorem State.freeBasket_arbiter (n : Nat) : (s.freeBasket n).arbiter = s.arbiter := rfl
@[simp] theorem State.freeBasket_store (n : Nat) : (s.freeBasket n).store = s.store := rfl
@[simp] theorem State.freeBasket_cards (n : Nat) : (s.freeBasket n).cards = s.cards := rfl
@[simp] theorem State.freeBasket_watch (n : Nat) : (s.freeBasket n).watch = s.watch := rfl
@[simp] theorem State.freeBasket_merchants (n : Nat) : (s.freeBasket n).merchants = s.merchants := rfl
@[simp] theorem State.freeBasket_schedules (n : Nat) : (s.freeBasket n).schedules = s.schedules := rfl
@[simp] theorem State.freeBasket_period (n : Nat) : (s.freeBasket n).period = s.period := rfl
@[simp] theorem State.freeBasket_payout (n : Nat) : (s.freeBasket n).payout = s.payout := rfl
@[simp] theorem State.freeBasket_sweep (n : Nat) : (s.freeBasket n).sweep = s.sweep := rfl
@[simp] theorem State.freeBasket_clock (n : Nat) : (s.freeBasket n).clock = s.clock := rfl
@[simp] theorem State.freeBasket_routes (n : Nat) : (s.freeBasket n).routes = s.routes := rfl
@[simp] theorem State.freeBasket_storedRoutes (n : Nat) : (s.freeBasket n).storedRoutes = s.storedRoutes := rfl
@[simp] theorem State.freeBasket_settings (n : Nat) : (s.freeBasket n).settings = s.settings := rfl
@[simp] theorem State.freeBasket_pending (n : Nat) : (s.freeBasket n).pending = s.pending := rfl

/-! `dropLapse` changes hold. -/
@[simp] theorem State.dropLapse_link : s.dropLapse.link = s.link := rfl
@[simp] theorem State.dropLapse_engine : s.dropLapse.engine = s.engine := rfl
@[simp] theorem State.dropLapse_arbiter : s.dropLapse.arbiter = s.arbiter := rfl
@[simp] theorem State.dropLapse_store : s.dropLapse.store = s.store := rfl
@[simp] theorem State.dropLapse_cards : s.dropLapse.cards = s.cards := rfl
@[simp] theorem State.dropLapse_watch : s.dropLapse.watch = s.watch := rfl
@[simp] theorem State.dropLapse_merchants : s.dropLapse.merchants = s.merchants := rfl
@[simp] theorem State.dropLapse_schedules : s.dropLapse.schedules = s.schedules := rfl
@[simp] theorem State.dropLapse_period : s.dropLapse.period = s.period := rfl
@[simp] theorem State.dropLapse_payout : s.dropLapse.payout = s.payout := rfl
@[simp] theorem State.dropLapse_sweep : s.dropLapse.sweep = s.sweep := rfl
@[simp] theorem State.dropLapse_clock : s.dropLapse.clock = s.clock := rfl
@[simp] theorem State.dropLapse_routes : s.dropLapse.routes = s.routes := rfl
@[simp] theorem State.dropLapse_storedRoutes : s.dropLapse.storedRoutes = s.storedRoutes := rfl
@[simp] theorem State.dropLapse_settings : s.dropLapse.settings = s.settings := rfl
@[simp] theorem State.dropLapse_pending : s.dropLapse.pending = s.pending := rfl

/-! `startRun` changes period and payout. -/
@[simp] theorem State.startRun_link : s.startRun.link = s.link := rfl
@[simp] theorem State.startRun_engine : s.startRun.engine = s.engine := rfl
@[simp] theorem State.startRun_arbiter : s.startRun.arbiter = s.arbiter := rfl
@[simp] theorem State.startRun_store : s.startRun.store = s.store := rfl
@[simp] theorem State.startRun_cards : s.startRun.cards = s.cards := rfl
@[simp] theorem State.startRun_watch : s.startRun.watch = s.watch := rfl
@[simp] theorem State.startRun_hold : s.startRun.hold = s.hold := rfl
@[simp] theorem State.startRun_merchants : s.startRun.merchants = s.merchants := rfl
@[simp] theorem State.startRun_schedules : s.startRun.schedules = s.schedules := rfl
@[simp] theorem State.startRun_sweep : s.startRun.sweep = s.sweep := rfl
@[simp] theorem State.startRun_clock : s.startRun.clock = s.clock := rfl
@[simp] theorem State.startRun_routes : s.startRun.routes = s.routes := rfl
@[simp] theorem State.startRun_storedRoutes : s.startRun.storedRoutes = s.storedRoutes := rfl
@[simp] theorem State.startRun_settings : s.startRun.settings = s.settings := rfl
@[simp] theorem State.startRun_pending : s.startRun.pending = s.pending := rfl

/-! `beginPass` changes sweep. -/
@[simp] theorem State.beginPass_link : s.beginPass.link = s.link := rfl
@[simp] theorem State.beginPass_engine : s.beginPass.engine = s.engine := rfl
@[simp] theorem State.beginPass_arbiter : s.beginPass.arbiter = s.arbiter := rfl
@[simp] theorem State.beginPass_store : s.beginPass.store = s.store := rfl
@[simp] theorem State.beginPass_cards : s.beginPass.cards = s.cards := rfl
@[simp] theorem State.beginPass_watch : s.beginPass.watch = s.watch := rfl
@[simp] theorem State.beginPass_hold : s.beginPass.hold = s.hold := rfl
@[simp] theorem State.beginPass_merchants : s.beginPass.merchants = s.merchants := rfl
@[simp] theorem State.beginPass_schedules : s.beginPass.schedules = s.schedules := rfl
@[simp] theorem State.beginPass_period : s.beginPass.period = s.period := rfl
@[simp] theorem State.beginPass_payout : s.beginPass.payout = s.payout := rfl
@[simp] theorem State.beginPass_clock : s.beginPass.clock = s.clock := rfl
@[simp] theorem State.beginPass_routes : s.beginPass.routes = s.routes := rfl
@[simp] theorem State.beginPass_storedRoutes : s.beginPass.storedRoutes = s.storedRoutes := rfl
@[simp] theorem State.beginPass_settings : s.beginPass.settings = s.settings := rfl
@[simp] theorem State.beginPass_pending : s.beginPass.pending = s.pending := rfl

/-! `setPowerGood` changes store. -/
@[simp] theorem State.setPowerGood_link (b : Bool) : (s.setPowerGood b).link = s.link := rfl
@[simp] theorem State.setPowerGood_engine (b : Bool) : (s.setPowerGood b).engine = s.engine := rfl
@[simp] theorem State.setPowerGood_arbiter (b : Bool) : (s.setPowerGood b).arbiter = s.arbiter := rfl
@[simp] theorem State.setPowerGood_cards (b : Bool) : (s.setPowerGood b).cards = s.cards := rfl
@[simp] theorem State.setPowerGood_watch (b : Bool) : (s.setPowerGood b).watch = s.watch := rfl
@[simp] theorem State.setPowerGood_hold (b : Bool) : (s.setPowerGood b).hold = s.hold := rfl
@[simp] theorem State.setPowerGood_merchants (b : Bool) : (s.setPowerGood b).merchants = s.merchants := rfl
@[simp] theorem State.setPowerGood_schedules (b : Bool) : (s.setPowerGood b).schedules = s.schedules := rfl
@[simp] theorem State.setPowerGood_period (b : Bool) : (s.setPowerGood b).period = s.period := rfl
@[simp] theorem State.setPowerGood_payout (b : Bool) : (s.setPowerGood b).payout = s.payout := rfl
@[simp] theorem State.setPowerGood_sweep (b : Bool) : (s.setPowerGood b).sweep = s.sweep := rfl
@[simp] theorem State.setPowerGood_clock (b : Bool) : (s.setPowerGood b).clock = s.clock := rfl
@[simp] theorem State.setPowerGood_routes (b : Bool) : (s.setPowerGood b).routes = s.routes := rfl
@[simp] theorem State.setPowerGood_storedRoutes (b : Bool) : (s.setPowerGood b).storedRoutes = s.storedRoutes := rfl
@[simp] theorem State.setPowerGood_settings (b : Bool) : (s.setPowerGood b).settings = s.settings := rfl
@[simp] theorem State.setPowerGood_pending (b : Bool) : (s.setPowerGood b).pending = s.pending := rfl

/-! `setMount` changes store. -/
@[simp] theorem State.setMount_link (m : MountStage) : (s.setMount m).link = s.link := rfl
@[simp] theorem State.setMount_engine (m : MountStage) : (s.setMount m).engine = s.engine := rfl
@[simp] theorem State.setMount_arbiter (m : MountStage) : (s.setMount m).arbiter = s.arbiter := rfl
@[simp] theorem State.setMount_cards (m : MountStage) : (s.setMount m).cards = s.cards := rfl
@[simp] theorem State.setMount_watch (m : MountStage) : (s.setMount m).watch = s.watch := rfl
@[simp] theorem State.setMount_hold (m : MountStage) : (s.setMount m).hold = s.hold := rfl
@[simp] theorem State.setMount_merchants (m : MountStage) : (s.setMount m).merchants = s.merchants := rfl
@[simp] theorem State.setMount_schedules (m : MountStage) : (s.setMount m).schedules = s.schedules := rfl
@[simp] theorem State.setMount_period (m : MountStage) : (s.setMount m).period = s.period := rfl
@[simp] theorem State.setMount_payout (m : MountStage) : (s.setMount m).payout = s.payout := rfl
@[simp] theorem State.setMount_sweep (m : MountStage) : (s.setMount m).sweep = s.sweep := rfl
@[simp] theorem State.setMount_clock (m : MountStage) : (s.setMount m).clock = s.clock := rfl
@[simp] theorem State.setMount_routes (m : MountStage) : (s.setMount m).routes = s.routes := rfl
@[simp] theorem State.setMount_storedRoutes (m : MountStage) : (s.setMount m).storedRoutes = s.storedRoutes := rfl
@[simp] theorem State.setMount_settings (m : MountStage) : (s.setMount m).settings = s.settings := rfl
@[simp] theorem State.setMount_pending (m : MountStage) : (s.setMount m).pending = s.pending := rfl

/-! `setPending` changes pending. -/
@[simp] theorem State.setPending_link (q : List Instr) : (s.setPending q).link = s.link := rfl
@[simp] theorem State.setPending_engine (q : List Instr) : (s.setPending q).engine = s.engine := rfl
@[simp] theorem State.setPending_arbiter (q : List Instr) : (s.setPending q).arbiter = s.arbiter := rfl
@[simp] theorem State.setPending_store (q : List Instr) : (s.setPending q).store = s.store := rfl
@[simp] theorem State.setPending_cards (q : List Instr) : (s.setPending q).cards = s.cards := rfl
@[simp] theorem State.setPending_watch (q : List Instr) : (s.setPending q).watch = s.watch := rfl
@[simp] theorem State.setPending_hold (q : List Instr) : (s.setPending q).hold = s.hold := rfl
@[simp] theorem State.setPending_merchants (q : List Instr) : (s.setPending q).merchants = s.merchants := rfl
@[simp] theorem State.setPending_schedules (q : List Instr) : (s.setPending q).schedules = s.schedules := rfl
@[simp] theorem State.setPending_period (q : List Instr) : (s.setPending q).period = s.period := rfl
@[simp] theorem State.setPending_payout (q : List Instr) : (s.setPending q).payout = s.payout := rfl
@[simp] theorem State.setPending_sweep (q : List Instr) : (s.setPending q).sweep = s.sweep := rfl
@[simp] theorem State.setPending_clock (q : List Instr) : (s.setPending q).clock = s.clock := rfl
@[simp] theorem State.setPending_routes (q : List Instr) : (s.setPending q).routes = s.routes := rfl
@[simp] theorem State.setPending_storedRoutes (q : List Instr) : (s.setPending q).storedRoutes = s.storedRoutes := rfl
@[simp] theorem State.setPending_settings (q : List Instr) : (s.setPending q).settings = s.settings := rfl

/-! A condition raised when a flag holds changes the link alone. -/

@[simp] theorem State.raiseIf_false (c : Condition) : s.raiseIf false c = s := rfl
@[simp] theorem State.raiseIf_true (c : Condition) : s.raiseIf true c = s.raise c := rfl
@[simp] theorem State.raiseIf_engine (b : Bool) (c : Condition) : (s.raiseIf b c).engine = s.engine := by cases b <;> rfl
@[simp] theorem State.raiseIf_arbiter (b : Bool) (c : Condition) : (s.raiseIf b c).arbiter = s.arbiter := by cases b <;> rfl
@[simp] theorem State.raiseIf_store (b : Bool) (c : Condition) : (s.raiseIf b c).store = s.store := by cases b <;> rfl
@[simp] theorem State.raiseIf_cards (b : Bool) (c : Condition) : (s.raiseIf b c).cards = s.cards := by cases b <;> rfl
@[simp] theorem State.raiseIf_watch (b : Bool) (c : Condition) : (s.raiseIf b c).watch = s.watch := by cases b <;> rfl
@[simp] theorem State.raiseIf_hold (b : Bool) (c : Condition) : (s.raiseIf b c).hold = s.hold := by cases b <;> rfl
@[simp] theorem State.raiseIf_merchants (b : Bool) (c : Condition) : (s.raiseIf b c).merchants = s.merchants := by cases b <;> rfl
@[simp] theorem State.raiseIf_schedules (b : Bool) (c : Condition) : (s.raiseIf b c).schedules = s.schedules := by cases b <;> rfl
@[simp] theorem State.raiseIf_period (b : Bool) (c : Condition) : (s.raiseIf b c).period = s.period := by cases b <;> rfl
@[simp] theorem State.raiseIf_payout (b : Bool) (c : Condition) : (s.raiseIf b c).payout = s.payout := by cases b <;> rfl
@[simp] theorem State.raiseIf_sweep (b : Bool) (c : Condition) : (s.raiseIf b c).sweep = s.sweep := by cases b <;> rfl
@[simp] theorem State.raiseIf_clock (b : Bool) (c : Condition) : (s.raiseIf b c).clock = s.clock := by cases b <;> rfl
@[simp] theorem State.raiseIf_routes (b : Bool) (c : Condition) : (s.raiseIf b c).routes = s.routes := by cases b <;> rfl
@[simp] theorem State.raiseIf_storedRoutes (b : Bool) (c : Condition) : (s.raiseIf b c).storedRoutes = s.storedRoutes := by cases b <;> rfl
@[simp] theorem State.raiseIf_settings (b : Bool) (c : Condition) : (s.raiseIf b c).settings = s.settings := by cases b <;> rfl
@[simp] theorem State.raiseIf_pending (b : Bool) (c : Condition) : (s.raiseIf b c).pending = s.pending := by cases b <;> rfl

end Sys2Proof.Machine
end

