-- ==== Sys2Proof/Laws/Ops.lean ====
section
/-! SUPPORT. What the shared operations can do, said once: postings, routed events, the arbiter, the completion of a unit
of work, the service of a frame, and the front checks. -/

namespace Sys2Proof.Machine

/-! ### Frames -/

theorem State.MoneyOnly.refl (s : State) : s.MoneyOnly s := rfl

theorem State.MoneyOnly.trans {s t u : State} (h : s.MoneyOnly t) (k : t.MoneyOnly u) : s.MoneyOnly u := by
  unfold State.MoneyOnly at *
  rw [k, h]

theorem State.FlagsOnly.trans {s t u : State} (h : s.FlagsOnly t) (k : t.FlagsOnly u) : s.FlagsOnly u := by
  unfold State.FlagsOnly at *
  rw [k, h]

theorem State.GrantOnly.refl (s : State) : s.GrantOnly s := rfl

/-! ### Postings (R19, R102, R103, R105) -/

theorem State.raiseIf_money (s : State) (b : Bool) (c : Condition) : s.MoneyOnly (s.raiseIf b c) := by
  cases b <;> rfl

/-- A posting changes the two value totals, merchant records and latched conditions alone. -/
theorem State.post_money (s : State) (p : Posting) : s.MoneyOnly (s.post p) := by
  cases p <;> simp only [State.post, State.postField, State.postFee, State.postSponsored] <;>
    first
      | rfl
      | exact State.MoneyOnly.trans (by rfl) (State.raiseIf_money _ _ _)
      | (split
         · rfl
         · exact State.MoneyOnly.trans (by rfl) (State.raiseIf_money _ _ _))

/-- So do postings carried out one after another. -/
theorem State.postAll_money (s : State) (ps : List Posting) : s.MoneyOnly (s.postAll ps) := by
  induction ps generalizing s with
  | nil => rfl
  | cons p ps ih => exact (s.post_money p).trans (ih _)

/-! ### Watch matches (R45) -/

/-- Comparing a number with the watch list changes latched conditions and the entry set alone. -/
theorem State.compareWatch_flags (s : State) (n : Nat) : s.FlagsOnly (s.compareWatch n) := by
  unfold State.compareWatch
  generalize s.watchMatches n = l
  induction l generalizing s with
  | nil => rfl
  | cons e l ih => exact State.FlagsOnly.trans (t := s.recordWatchHit e) rfl (ih _)

/-- So does comparing several numbers. -/
theorem State.compareAll_flags (s : State) (ns : List Nat) : s.FlagsOnly (ns.foldl State.compareWatch s) := by
  induction ns generalizing s with
  | nil => rfl
  | cons n ns ih => exact (s.compareWatch_flags n).trans (ih _)

/-! ### Events (R163) -/

/-- Delivering an event changes what `EventOnly` names alone. -/
theorem State.deliver_event (s : State) (e : EventSource) : s.EventOnly (s.deliver e) := by
  unfold State.deliver
  split
  · rfl
  · rfl
  · unfold State.routedPassStart State.startPass
    split
    · split <;> rfl
    · rfl
  · unfold State.routedRunStart
    split <;> rfl

/-! ### The arbiter (R177) -/

/-- The arbiter changes what a grant changes, and nothing else. -/
theorem State.arbitrate_grant (s : State) : s.GrantOnly s.arbitrate := by
  unfold State.arbitrate
  split
  · rfl
  · split
    · rfl
    · unfold State.grant
      split <;> rfl

theorem State.arbitrate_of_held (s : State) (h : s.arbiter.holder ≠ none) : s.arbitrate = s := by
  unfold State.arbitrate
  split
  · rfl
  · next hn => exact absurd hn h

theorem State.arbitrate_of_none (s : State) (h : s.grantee = none) : s.arbitrate = s := by
  unfold State.arbitrate
  split
  · rfl
  · rw [h]

/-- A grant goes to a claimant that may hold the store. -/
theorem State.grantee_may {s : State} {c : Claimant} (h : s.grantee = some c) : s.MayHold c := by
  have := List.find?_some h
  simpa [State.MayHold] using this

/-! ### The service of a frame (R175, R187) -/

/-- The request in progress is served by the row of its kind. -/
theorem State.serve_inProgress {s : State} {f : Frame} (takes : Frame → Bool) (work : Frame → State → Reply × State)
    (hc : s.engine.current = some f) (hh : s.arbiter.holder = some .requestEngine) (ht : takes f = true) :
    s.serve takes work = (work f s).2.completeRequest f (work f s).1 := by
  simp [State.serve, hc, hh, ht]

/-- A frame that needs no grant is served from the intake queue. -/
theorem State.serve_next {s : State} {f : Frame} {rest : List Frame} (takes : Frame → Bool)
    (work : Frame → State → Reply × State) (hn : s.Next f rest) (ht : takes f = true)
    (hg : s.frameNeedsGrant f = false) :
    s.serve takes work = (work f (s.taken rest)).2.completeTaken f (work f (s.taken rest)).1 := by
  simp [State.serve, hn.idle, hn.oldest, ht, hg, hn.may, State.completeTaken, State.taken]

/-- Whatever a row meets, it completes the request in progress, or serves the oldest frame, or changes nothing. -/
theorem State.serve_cases (s : State) (takes : Frame → Bool) (work : Frame → State → Reply × State) :
    (∃ f, s.engine.current = some f ∧ s.arbiter.holder = some .requestEngine ∧ takes f = true ∧
      s.serve takes work = (work f s).2.completeRequest f (work f s).1) ∨
    (∃ f rest, s.Next f rest ∧ takes f = true ∧ s.frameNeedsGrant f = false ∧
      s.serve takes work = (work f (s.taken rest)).2.completeTaken f (work f (s.taken rest)).1) ∨
    s.serve takes work = s := by
  cases hc : s.engine.current with
  | some f =>
    by_cases h : takes f = true ∧ s.arbiter.holder = some .requestEngine
    · exact .inl ⟨f, rfl, h.2, h.1, s.serve_inProgress takes work hc h.2 h.1⟩
    · refine .inr (.inr ?_)
      simp only [State.serve, hc]
      rw [if_neg (by simpa using h)]
  | none =>
    cases hi : s.link.intake with
    | nil => exact .inr (.inr (by simp [State.serve, hc, hi]))
    | cons f rest =>
      by_cases h : takes f = true ∧ s.frameNeedsGrant f = false ∧ s.mayTake = true
      · have hn : s.Next f rest := ⟨hc, hi, h.2.2⟩
        exact .inr (.inl ⟨f, rest, hn, h.1, h.2.1, s.serve_next takes work hn h.1 h.2.1⟩)
      · refine .inr (.inr ?_)
        simp only [State.serve, hc, hi]
        rw [if_neg (by simpa [and_assoc] using h)]

/-- A well-formed request goes to its unit. -/
theorem wellFormedOr_some {f : Frame} {r : Request} (unit : Request → State → Reply × State) (s : State)
    (h : f.request = some r) : wellFormedOr unit f s = unit r s := by
  simp [wellFormedOr, h]

/-- A malformed one is refused. -/
theorem wellFormedOr_none {f : Frame} (unit : Request → State → Reply × State) (s : State)
    (h : f.request = none) : wellFormedOr unit f s = (refuse .badRequest, s) := by
  simp [wellFormedOr, h]

/-! ### Front checks (R25) -/

theorem whenReady_ready {s : State} (work : State → Reply × State) (h : s.store.state = .ready) :
    whenReady work s = work s := by
  simp [whenReady, h]

theorem whenReady_not {s : State} (work : State → Reply × State) (h : s.store.state ≠ .ready) :
    whenReady work s = (refuse .notReady, s) := by
  simp [whenReady, h]

theorem whenSet_set {s : State} (work : State → Reply × State) (h : s.store.state = .ready) (k : s.clock.isSet = true) :
    whenSet work s = work s := by
  simp [whenSet, whenReady, h, k]

theorem whenSet_unset {s : State} (work : State → Reply × State) (h : s.store.state = .ready)
    (k : s.clock.isSet = false) : whenSet work s = (refuse .clockUnset, s) := by
  simp [whenSet, whenReady, h, k]

/-- Front checks that are passed lead on, with the watch matches recorded. -/
theorem cardFront_passed {s : State} {ns : List Nat} (rest : State → Reply × State) (h : s.PassesFront ns) :
    cardFront ns rest s = rest (ns.foldl State.compareWatch s) := by
  have hv : ns.all validNumber = true := List.all_eq_true.mpr h.valid
  have hd : ns.any s.declined = false := by
    simpa [List.any_eq_false] using fun n hn => by simpa using h.free n hn
  simp only [cardFront, whenSet_set _ h.ready h.set, hv, hd, if_true]
  rfl

/-- The card that the directory finds, after lazy expiry. -/
theorem withCard_found {s : State} {n slot : Nat} {c : Card} (rest : Nat → Card → State → Reply × State)
    (h : s.lookup n = some (slot, c)) :
    withCard n s rest = rest slot (c.expire s.today) (s.postAll (lotsPostings s.today c.lots)) := by
  simp [withCard, h]

theorem withCard_absent {s : State} {n : Nat} (rest : Nat → Card → State → Reply × State) (h : s.lookup n = none) :
    withCard n s rest = (refuse .noCard, s) := by
  simp [withCard, h]

/-! ### The end of a hold (R58) -/

/-- The closing check changes the card table alone. -/
theorem State.closingCheck_cards (s : State) (slot : Nat) (c : Card) :
    s.closingCheck slot c = { s with cards := (s.closingCheck slot c).cards } := by
  unfold State.closingCheck
  split
  · split <;> rfl
  · rfl

/-- The end of a hold changes cards, merchants, the Hold Table and latched conditions alone. -/
theorem State.endHold_only (s : State) (h : Hold) (taken : Nat) : s.HoldsOnly (s.endHold h taken) := by
  have hm : ∀ c : Card, (s.postAll (endPostings s.today (splitParts taken h.parts) c.lots)) = _ := fun c =>
    s.postAll_money _
  unfold State.endHold State.endOnCard
  cases hc : s.cardAt h.slot with
  | none => rfl
  | some c =>
    simp only [State.HoldsOnly, State.onMerchant, State.setMerchant]
    rw [State.closingCheck_cards, hm c]

/-! ### Link transactions -/

/-- The command of a transaction is well formed (R185). -/
theorem transactionOf_wellFormed {bytes : List Byte} {c : Instr} (h : transactionOf bytes = some c) : c.wellFormed = true := by
  cases bytes with
  | nil => cases h
  | cons code rest =>
    obtain rfl := Option.some.inj h
    split
    · rfl
    split
    · rfl
    split
    · rfl
    · simp_all [Instr.wellFormed, codeKnown]

/-- A transaction of no bytes is no command, and any other is one (R185). -/
theorem transactionOf_eq_none {bytes : List Byte} : transactionOf bytes = none ↔ bytes = [] := by
  cases bytes <;> simp [transactionOf]

/-- A transaction changes nothing but the queue of commands, until it is carried out. -/
theorem State.transact_queueOnly (s : State) (bytes : List Byte) :
    s.transact bytes = { s with pending := (s.transact bytes).pending } := rfl
@[simp] theorem State.transact_pending (s : State) (bytes : List Byte) :
    (s.transact bytes).pending = s.pending ++ (transactionOf bytes).toList := rfl

end Sys2Proof.Machine
end

