-- ==== Sys2Proof/Laws/Fields.lean ====
section
/-! SUPPORT. What the shared operations leave as it is, field by field, read off their frames in Sys2Proof/Laws/Ops.lean. -/

namespace Sys2Proof.Machine

variable (s : State)

theorem State.FlagsOnly.eq {s t : State} (h : s.FlagsOnly t) :
    t = { s with link := { s.link with latched := t.link.latched, watchHits := t.link.watchHits } } := h

theorem State.MoneyOnly.eq {s t : State} (h : s.MoneyOnly t) : t = { s with
    cards := { s.cards with paidOutstanding := t.cards.paidOutstanding, promoOutstanding := t.cards.promoOutstanding }
    merchants := t.merchants
    link := { s.link with latched := t.link.latched } } := h

theorem State.EventOnly.eq {s t : State} (h : s.EventOnly t) : t = { s with
    link := { s.link with latched := t.link.latched }
    sweep := t.sweep
    payout := { s.payout with run := t.payout.run }
    period := { s.period with snapshot := { s.period.snapshot with state := t.period.snapshot.state } } } := h

theorem State.GrantOnly.eq {s t : State} (h : s.GrantOnly t) :
    t = { s with arbiter := t.arbiter, engine := t.engine, link := { s.link with intake := t.link.intake } } := h


/-! `compareWatch` changes latched conditions and the WATCH_HIT entry set. -/

@[simp] theorem State.compareWatch_engine (n : Nat) : (s.compareWatch n).engine = s.engine := by
  rw [(s.compareWatch_flags n).eq]
@[simp] theorem State.compareWatch_arbiter (n : Nat) : (s.compareWatch n).arbiter = s.arbiter := by
  rw [(s.compareWatch_flags n).eq]
@[simp] theorem State.compareWatch_store (n : Nat) : (s.compareWatch n).store = s.store := by
  rw [(s.compareWatch_flags n).eq]
@[simp] theorem State.compareWatch_cards (n : Nat) : (s.compareWatch n).cards = s.cards := by
  rw [(s.compareWatch_flags n).eq]
@[simp] theorem State.compareWatch_watch (n : Nat) : (s.compareWatch n).watch = s.watch := by
  rw [(s.compareWatch_flags n).eq]
@[simp] theorem State.compareWatch_hold (n : Nat) : (s.compareWatch n).hold = s.hold := by
  rw [(s.compareWatch_flags n).eq]
@[simp] theorem State.compareWatch_merchants (n : Nat) : (s.compareWatch n).merchants = s.merchants := by
  rw [(s.compareWatch_flags n).eq]
@[simp] theorem State.compareWatch_schedules (n : Nat) : (s.compareWatch n).schedules = s.schedules := by
  rw [(s.compareWatch_flags n).eq]
@[simp] theorem State.compareWatch_period (n : Nat) : (s.compareWatch n).period = s.period := by
  rw [(s.compareWatch_flags n).eq]
@[simp] theorem State.compareWatch_payout (n : Nat) : (s.compareWatch n).payout = s.payout := by
  rw [(s.compareWatch_flags n).eq]
@[simp] theorem State.compareWatch_sweep (n : Nat) : (s.compareWatch n).sweep = s.sweep := by
  rw [(s.compareWatch_flags n).eq]
@[simp] theorem State.compareWatch_clock (n : Nat) : (s.compareWatch n).clock = s.clock := by
  rw [(s.compareWatch_flags n).eq]
@[simp] theorem State.compareWatch_routes (n : Nat) : (s.compareWatch n).routes = s.routes := by
  rw [(s.compareWatch_flags n).eq]
@[simp] theorem State.compareWatch_storedRoutes (n : Nat) : (s.compareWatch n).storedRoutes = s.storedRoutes := by
  rw [(s.compareWatch_flags n).eq]
@[simp] theorem State.compareWatch_settings (n : Nat) : (s.compareWatch n).settings = s.settings := by
  rw [(s.compareWatch_flags n).eq]
@[simp] theorem State.compareWatch_pending (n : Nat) : (s.compareWatch n).pending = s.pending := by
  rw [(s.compareWatch_flags n).eq]
@[simp] theorem State.compareWatch_today (n : Nat) : (s.compareWatch n).today = s.today := by
  simp [State.today]
@[simp] theorem State.compareWatch_cfg (n : Nat) : (s.compareWatch n).cfg = s.cfg := by simp [State.cfg]
@[simp] theorem State.compareWatch_merchant (n i : Nat) : (s.compareWatch n).merchant i = s.merchant i := by
  simp [State.merchant]
@[simp] theorem State.compareWatch_isActive (n i : Nat) : (s.compareWatch n).isActive i = s.isActive i := by
  simp [State.isActive]
@[simp] theorem State.compareWatch_cardAt (n j : Nat) : (s.compareWatch n).cardAt j = s.cardAt j := by
  simp [State.cardAt]
@[simp] theorem State.compareWatch_lookup (n k : Nat) : (s.compareWatch n).lookup k = s.lookup k := by
  simp [State.lookup]

/-! `postAll` changes the value totals, merchant records and latched conditions. -/

@[simp] theorem State.postAll_engine (ps : List Posting) : (s.postAll ps).engine = s.engine := by
  rw [(s.postAll_money ps).eq]
@[simp] theorem State.postAll_arbiter (ps : List Posting) : (s.postAll ps).arbiter = s.arbiter := by
  rw [(s.postAll_money ps).eq]
@[simp] theorem State.postAll_store (ps : List Posting) : (s.postAll ps).store = s.store := by
  rw [(s.postAll_money ps).eq]
@[simp] theorem State.postAll_watch (ps : List Posting) : (s.postAll ps).watch = s.watch := by
  rw [(s.postAll_money ps).eq]
@[simp] theorem State.postAll_hold (ps : List Posting) : (s.postAll ps).hold = s.hold := by
  rw [(s.postAll_money ps).eq]
@[simp] theorem State.postAll_schedules (ps : List Posting) : (s.postAll ps).schedules = s.schedules := by
  rw [(s.postAll_money ps).eq]
@[simp] theorem State.postAll_period (ps : List Posting) : (s.postAll ps).period = s.period := by
  rw [(s.postAll_money ps).eq]
@[simp] theorem State.postAll_payout (ps : List Posting) : (s.postAll ps).payout = s.payout := by
  rw [(s.postAll_money ps).eq]
@[simp] theorem State.postAll_sweep (ps : List Posting) : (s.postAll ps).sweep = s.sweep := by
  rw [(s.postAll_money ps).eq]
@[simp] theorem State.postAll_clock (ps : List Posting) : (s.postAll ps).clock = s.clock := by
  rw [(s.postAll_money ps).eq]
@[simp] theorem State.postAll_routes (ps : List Posting) : (s.postAll ps).routes = s.routes := by
  rw [(s.postAll_money ps).eq]
@[simp] theorem State.postAll_storedRoutes (ps : List Posting) : (s.postAll ps).storedRoutes = s.storedRoutes := by
  rw [(s.postAll_money ps).eq]
@[simp] theorem State.postAll_settings (ps : List Posting) : (s.postAll ps).settings = s.settings := by
  rw [(s.postAll_money ps).eq]
@[simp] theorem State.postAll_pending (ps : List Posting) : (s.postAll ps).pending = s.pending := by
  rw [(s.postAll_money ps).eq]
@[simp] theorem State.postAll_slots (ps : List Posting) : (s.postAll ps).cards.slots = s.cards.slots := by
  rw [(s.postAll_money ps).eq]
@[simp] theorem State.postAll_directory (ps : List Posting) :
    (s.postAll ps).cards.directory = s.cards.directory := by
  rw [(s.postAll_money ps).eq]
@[simp] theorem State.postAll_cardAt (ps : List Posting) (j : Nat) : (s.postAll ps).cardAt j = s.cardAt j := by
  simp [State.cardAt]
@[simp] theorem State.postAll_today (ps : List Posting) : (s.postAll ps).today = s.today := by simp [State.today]
@[simp] theorem State.postAll_cfg (ps : List Posting) : (s.postAll ps).cfg = s.cfg := by simp [State.cfg]

/-! `deliver` changes latched conditions and what a routed start may begin. -/

@[simp] theorem State.deliver_engine (e : EventSource) : (s.deliver e).engine = s.engine := by
  rw [(s.deliver_event e).eq]
@[simp] theorem State.deliver_arbiter (e : EventSource) : (s.deliver e).arbiter = s.arbiter := by
  rw [(s.deliver_event e).eq]
@[simp] theorem State.deliver_store (e : EventSource) : (s.deliver e).store = s.store := by
  rw [(s.deliver_event e).eq]
@[simp] theorem State.deliver_cards (e : EventSource) : (s.deliver e).cards = s.cards := by
  rw [(s.deliver_event e).eq]
@[simp] theorem State.deliver_watch (e : EventSource) : (s.deliver e).watch = s.watch := by
  rw [(s.deliver_event e).eq]
@[simp] theorem State.deliver_hold (e : EventSource) : (s.deliver e).hold = s.hold := by
  rw [(s.deliver_event e).eq]
@[simp] theorem State.deliver_merchants (e : EventSource) : (s.deliver e).merchants = s.merchants := by
  rw [(s.deliver_event e).eq]
@[simp] theorem State.deliver_schedules (e : EventSource) : (s.deliver e).schedules = s.schedules := by
  rw [(s.deliver_event e).eq]
@[simp] theorem State.deliver_clock (e : EventSource) : (s.deliver e).clock = s.clock := by
  rw [(s.deliver_event e).eq]
@[simp] theorem State.deliver_routes (e : EventSource) : (s.deliver e).routes = s.routes := by
  rw [(s.deliver_event e).eq]
@[simp] theorem State.deliver_storedRoutes (e : EventSource) : (s.deliver e).storedRoutes = s.storedRoutes := by
  rw [(s.deliver_event e).eq]
@[simp] theorem State.deliver_settings (e : EventSource) : (s.deliver e).settings = s.settings := by
  rw [(s.deliver_event e).eq]
@[simp] theorem State.deliver_pending (e : EventSource) : (s.deliver e).pending = s.pending := by
  rw [(s.deliver_event e).eq]
@[simp] theorem State.deliver_queue (e : EventSource) : (s.deliver e).payout.queue = s.payout.queue := by
  rw [(s.deliver_event e).eq]
@[simp] theorem State.deliver_holdFlag (e : EventSource) : (s.deliver e).payout.holdFlag = s.payout.holdFlag := by
  rw [(s.deliver_event e).eq]
@[simp] theorem State.deliver_cutPending (e : EventSource) : (s.deliver e).period.cutPending = s.period.cutPending := by
  rw [(s.deliver_event e).eq]
@[simp] theorem State.deliver_cardAt (e : EventSource) (j : Nat) : (s.deliver e).cardAt j = s.cardAt j := by
  simp [State.cardAt]

/-! `arbitrate` changes the arbiter, the Request Engine and the intake queue. -/

@[simp] theorem State.arbitrate_store : (s.arbitrate).store = s.store := by
  rw [(s.arbitrate_grant).eq]
@[simp] theorem State.arbitrate_cards : (s.arbitrate).cards = s.cards := by
  rw [(s.arbitrate_grant).eq]
@[simp] theorem State.arbitrate_watch : (s.arbitrate).watch = s.watch := by
  rw [(s.arbitrate_grant).eq]
@[simp] theorem State.arbitrate_hold : (s.arbitrate).hold = s.hold := by
  rw [(s.arbitrate_grant).eq]
@[simp] theorem State.arbitrate_merchants : (s.arbitrate).merchants = s.merchants := by
  rw [(s.arbitrate_grant).eq]
@[simp] theorem State.arbitrate_schedules : (s.arbitrate).schedules = s.schedules := by
  rw [(s.arbitrate_grant).eq]
@[simp] theorem State.arbitrate_period : (s.arbitrate).period = s.period := by
  rw [(s.arbitrate_grant).eq]
@[simp] theorem State.arbitrate_payout : (s.arbitrate).payout = s.payout := by
  rw [(s.arbitrate_grant).eq]
@[simp] theorem State.arbitrate_sweep : (s.arbitrate).sweep = s.sweep := by
  rw [(s.arbitrate_grant).eq]
@[simp] theorem State.arbitrate_clock : (s.arbitrate).clock = s.clock := by
  rw [(s.arbitrate_grant).eq]
@[simp] theorem State.arbitrate_routes : (s.arbitrate).routes = s.routes := by
  rw [(s.arbitrate_grant).eq]
@[simp] theorem State.arbitrate_storedRoutes : (s.arbitrate).storedRoutes = s.storedRoutes := by
  rw [(s.arbitrate_grant).eq]
@[simp] theorem State.arbitrate_settings : (s.arbitrate).settings = s.settings := by
  rw [(s.arbitrate_grant).eq]
@[simp] theorem State.arbitrate_pending : (s.arbitrate).pending = s.pending := by
  rw [(s.arbitrate_grant).eq]
@[simp] theorem State.arbitrate_answers : s.arbitrate.link.answers = s.link.answers := by
  rw [s.arbitrate_grant.eq]
@[simp] theorem State.arbitrate_latched : s.arbitrate.link.latched = s.link.latched := by
  rw [s.arbitrate_grant.eq]
@[simp] theorem State.arbitrate_cardAt (j : Nat) : s.arbitrate.cardAt j = s.cardAt j := by simp [State.cardAt]

/-! ### Requests in service -/

/-- A well-formed request in progress goes to the unit of its row. -/
theorem State.InProgress.serve_eq {s : State} {f : Frame} {r : Request} (h : s.InProgress f r)
    (unit : Request → State → Reply × State) :
    s.serve (Frame.isKind r.kind) (wellFormedOr unit) = (unit r s).2.completeRequest f (unit r s).1 := by
  rw [s.serve_inProgress _ _ h.current h.holds (Frame.isKind_of_request h.carries), wellFormedOr_some _ _ h.carries]

/-- A well-formed request that needs no grant goes to the unit of its row, from the intake queue. -/
theorem State.Next.serve_eq {s : State} {f : Frame} {rest : List Frame} {r : Request} (h : s.Next f rest)
    (hr : f.request = some r) (hg : s.frameNeedsGrant f = false) (unit : Request → State → Reply × State) :
    s.serve (Frame.isKind r.kind) (wellFormedOr unit) =
      (unit r (s.taken rest)).2.completeTaken f (unit r (s.taken rest)).1 := by
  rw [s.serve_next _ _ h (Frame.isKind_of_request hr) hg, wellFormedOr_some _ _ hr]

end Sys2Proof.Machine
end

