-- ==== Sys2Proof/Tests/Slice0.lean ====
section
/-! SUPPORT. Tests of the model, each on one step of a small state, with results taken from the worked examples and tables of
spec/; and, for each statement of the obligations that has hypotheses, a state and operands that meet them. -/

namespace Sys2Proof.Tests

open Sys2Proof Sys2Proof.Machine

/-! ### Small states -/

/-- The card numbers of the worked examples. -/
abbrev cardA : Nat := 6050110000000003
abbrev cardB : Nat := 6050110000000011

/-- READY, the clock SET on day 398. -/
def ready : State := { State.reset with
  store := ⟨.ready, false, true, .finished, true, true⟩
  clock := ⟨398, 30, true, .external, 0, false⟩ }

/-- An ACTIVE merchant. -/
def shop : Merchant := { Merchant.unlisted with state := .active }

/-- The keys of the start card of section 1.4. -/
abbrev keyZero : LotKey := ⟨.promo, some 0, some 400⟩
abbrev keySponsor : LotKey := ⟨.promo, some 37, some 420⟩
abbrev keyPaid : LotKey := ⟨.paid, none, none⟩

/-- The start card of section 1.4 in slot 0, merchants 12 and 37 listed. -/
def start : State := { ready with
  merchants := [(0, { shop with sponsored := 2000 }), (12, { shop with allowance := 5000 }),
    (37, { shop with sponsored := 1500 })]
  cards := ⟨[(0, ⟨cardA, .active, [⟨keyZero, 2000, 0⟩, ⟨keySponsor, 1500, 0⟩, ⟨keyPaid, 10000, 0⟩], 0, 390⟩)],
    [(cardA, 0)], 10000, 3500⟩
  hold := ⟨[], 881, [], 1, [], 0⟩ }

/-- Hold 881 of section 3.2. -/
def hold881 : Hold :=
  ⟨881, .opened, 0, 12, 6, 4000, [⟨keyZero, 2000⟩, ⟨keySponsor, 1500⟩, ⟨keyPaid, 500⟩], some 30, none⟩

/-- The start state after the AUTHORIZE of section 3.2. -/
def held : State := { start with
  merchants := [(0, { shop with sponsored := 2000 }), (12, { shop with allowance := 5000, openHolds := 1 }),
    (37, { shop with sponsored := 1500 })]
  cards := ⟨[(0, ⟨cardA, .active, [⟨keyZero, 0, 2000⟩, ⟨keySponsor, 0, 1500⟩, ⟨keyPaid, 9500, 500⟩], 1, 390⟩)],
    [(cardA, 0)], 10000, 3500⟩
  hold := ⟨[hold881], 882, [], 1, [], 0⟩ }

/-- The held state with the hold a member of basket 77. -/
def basketed : State := { held with
  hold := ⟨[{ hold881 with minutes := none, basket := some 77 }], 882, [⟨77, .opened, 12, 6, [881], 10⟩], 78, [], 0⟩ }

/-- A card of available 0 with a hold, as in section 2.6. -/
def reserved : State := { held with
  cards := ⟨[(0, ⟨cardA, .active, [⟨keyPaid, 0, 500⟩], 1, 390⟩)], [(cardA, 0)], 500, 0⟩
  hold := ⟨[{ hold881 with amount := 500, parts := [⟨keyPaid, 500⟩] }], 882, [], 1, [], 0⟩ }

/-- The reserved state with the mount at work on a step. -/
def mounting (m : MountStage) : State := { reserved with store := ⟨.mounting, false, true, m, false, true⟩ }

/-- The state with a request taken under its grant. -/
def serving (r : Request) (s : State) : State :=
  { s with engine := ⟨some (r.frame 7#16), false⟩, arbiter := ⟨some .requestEngine, .expirySweep⟩ }

/-- The state with a frame oldest in the intake queue. -/
def queued (f : Frame) (s : State) : State := { s with link := { s.link with intake := [f] } }

/-- The state with the store granted to a unit. -/
def granted (c : Claimant) (s : State) : State := { s with arbiter := ⟨some c, .requestEngine⟩ }

/-- What holds after one command. -/
def after (c : Instr) (s : State) (p : State → Bool) : Bool :=
  match exec c s with
  | .next t => p t
  | .fault _ => false
  | .refused _ => false

/-- The answer that a request in progress gives: its outcome and fields. -/
def answers (r : Request) (s : State) (bytes : List Byte) : Bool :=
  after r.row (serving r s) (fun t => t.link.answers.map (·.drop 5) == [bytes])

/-! ### Well-formedness -/

/-- A transaction of unknown code cannot carry the code of TAKE (R185). -/
theorem test_wellFormed_refuses_known_code : (Instr.transactionCodeUnknown 2#8 []).wellFormed = false := by decide
theorem test_wellFormed_admits_unknown_code : (Instr.transactionCodeUnknown 4#8 []).wellFormed = true := by decide

/-! ### Transactions and frames written out from R185 and R190 -/

/-- The first byte of a transaction is its code: 1 PUT, 2 TAKE, 3 LINK_RESET; of a TAKE, the bytes after it clock 3. -/
theorem test_transaction_codes :
    transactionOf [1#8, 0#8, 3#8, 80#8, 0#8, 7#8] = some (.put [0#8, 3#8, 80#8, 0#8, 7#8]) ∧
    transactionOf [2#8, 0#8, 0#8, 0#8] = some (.take 3) ∧ transactionOf [3#8] = some (.linkReset []) ∧
    transactionOf [0#8] = some (.transactionCodeUnknown 0#8 []) ∧ transactionOf [] = none := by decide

/-- SUSPEND of card 6050 1100 0000 0003, tag 7: length 12, kind 4, tag, presence byte, eight bytes. -/
theorem test_frame_suspend :
    (frameOf [0#8, 12#8, 4#8, 0#8, 7#8, 1#8, 0#8, 21#8, 126#8, 139#8, 1#8, 102#8, 236#8, 3#8]).bind Frame.request =
      some (.suspend cardA) := by decide

/-- CAPTURE of hold 881 with 3,200: kind 17, two 4-byte fields. -/
theorem test_frame_capture :
    (frameOf [0#8, 13#8, 17#8, 0#8, 7#8, 1#8, 0#8, 0#8, 3#8, 113#8, 1#8, 0#8, 0#8, 12#8, 128#8]).bind Frame.request =
      some (.capture 881 3200) := by decide

/-- BASKET_OPEN of merchant 21, terminal 4, no minutes: kind 20, the third presence byte 0. -/
theorem test_frame_basketOpen :
    (frameOf [0#8, 10#8, 20#8, 0#8, 7#8, 1#8, 0#8, 21#8, 1#8, 0#8, 4#8, 0#8]).bind Frame.request =
      some (.basketOpen 21 4 none) := by decide

/-- MERCHANT_READ of merchant 300: kind 34. -/
theorem test_frame_merchantRead :
    (frameOf [0#8, 6#8, 34#8, 0#8, 7#8, 1#8, 1#8, 44#8]).bind Frame.request = some (.merchantRead 300) := by decide

/-- SET_CLOCK of day 398, second 65,536: kind 64, fields of 2 and 4 bytes. -/
theorem test_frame_setClock :
    (frameOf [0#8, 11#8, 64#8, 0#8, 7#8, 1#8, 1#8, 142#8, 1#8, 0#8, 1#8, 0#8, 0#8]).bind Frame.request =
      some (.setClock 398 65536) := by decide

/-- STATUS: kind 80, no field. -/
theorem test_frame_status : (frameOf [0#8, 3#8, 80#8, 0#8, 7#8]).bind Frame.request = some .status := by decide

/-- A presence byte that is neither 0 nor 1, and a byte left over, make the frame malformed (R190). -/
theorem test_frame_malformed :
    (frameOf [0#8, 6#8, 34#8, 0#8, 7#8, 2#8, 1#8, 44#8]).bind Frame.request = none ∧
    (frameOf [0#8, 4#8, 80#8, 0#8, 7#8, 0#8]).bind Frame.request = none := by decide

/-! ### Cards (chapters 1 and 2) -/

/-- Section 1.2: 6050 1100 0000 0003 is valid; one digit changed, and two neighbours exchanged, are not (R4). -/
theorem test_number_check :
    validNumber cardA = true ∧ validNumber 6050110000000004 = false ∧ validNumber 6050110000000030 = false := by decide

/-- Section 1.4: a level lot that joins later follows; a PAID lot with an expiry day precedes the one without (R7). -/
theorem test_insertion :
    (creditLots ⟨.promo, some 50, some 420⟩ 1000 [⟨keyZero, 2000, 0⟩, ⟨keySponsor, 2000, 0⟩, ⟨keyPaid, 10000, 0⟩]).map
      (·.key.sponsor) = [some 0, some 37, some 50, none] ∧
    (creditLots (paidKey 365 398) 700 [⟨keyPaid, 10000, 0⟩]).map (·.key.expiry) = [some 763, none] := by decide

/-- Section 5.6: ISSUE of paid 10,000 posts SOLD, and its answer carries the card's value. -/
theorem test_issue : after .issue (serving (.issue cardB 12 10000 (some ⟨1000, 37, 405⟩)) start) (fun t =>
    (t.merchant 12).position.sold == 10000 && (t.merchant 37).sponsored == 2500 && t.cards.paidOutstanding == 20000) = true := by
  decide

/-- Section 1.4: LOAD PROMO 500 of sponsor 37, expiry 420, merges; the card's value is 14,000. -/
theorem test_load : answers (.load cardA 12 500 (some ⟨37, 420⟩)) start
    [0#8, 1#8, 0#8, 0#8, 54#8, 176#8, 1#8, 0#8, 0#8, 54#8, 176#8, 1#8, 0#8, 3#8, 1#8, 0#8, 0#8, 7#8, 208#8] = true := by decide

/-- An INQUIRE that finds an expired lot expires it (R22): on day 401 the 2,000 of sponsor 0 lapse. -/
theorem test_inquire_expires : after .inquire (serving (.inquire cardA) { start with clock := { start.clock with day := 401 } })
    (fun t => (t.merchant 0).position.promoLapsed == 2000 && t.cards.promoOutstanding == 1500) = true := by decide

theorem test_suspend : answers (.suspend cardA) start [0#8, 1#8, 1#8] = true := by decide
theorem test_resume : answers (.resume cardA) start [0#8, 1#8, 0#8] = true := by decide

/-- Section 2.6: a card whose value is all held becomes CLOSING, with count and held. -/
theorem test_close : answers (.close cardA) reserved [0#8, 1#8, 1#8, 1#8, 0#8, 1#8, 1#8, 0#8, 0#8, 1#8, 244#8] = true := by
  decide

/-- Section 2.8: REPLACE leaves the old number absent. -/
theorem test_replace : after .replace (serving (.replace cardA cardB) start)
    (fun t => t.cards.directory == [(cardB, 0)]) = true := by decide

/-- Section 2.8: a WRITE of a number another entry holds rewrites that entry. -/
theorem test_watch_write : after .watchSetWrite (serving (.watchWrite 2 cardA 0) { start with watch := [(5, ⟨cardA, .decline⟩)] })
    (fun t => t.watch == [(5, ⟨cardA, .notify⟩)]) = true := by decide
theorem test_watch_clear : after .watchSetClear (serving (.watchClear 5) { start with watch := [(5, ⟨cardA, .decline⟩)] })
    (fun t => t.watch == []) = true := by decide
theorem test_watch_list : after .watchSetList (serving (.watchList 0) start) (fun t => t.link.answers.map List.length == [26]) = true := by
  decide

/-! ### Holds and baskets (chapters 3 and 4) -/

/-- Section 3.2: AUTHORIZE 4,000 answers hold 881, amount 4,000, minutes left 30 and total available 9,500. -/
theorem test_authorize : answers (.authorize cardA 12 6 4000 0 none none) start
    [0#8, 1#8, 0#8, 0#8, 3#8, 113#8, 1#8, 0#8, 0#8, 15#8, 160#8, 1#8, 0#8, 30#8, 0#8, 1#8, 0#8, 0#8, 37#8, 28#8] = true := by
  decide

/-- Section 3.2: AUTHORIZE 15,000 without partial-ok answers INSUFFICIENT with 13,500. -/
theorem test_authorize_insufficient : answers (.authorize cardA 12 6 15000 0 none none) start
    [9#8, 1#8, 0#8, 0#8, 52#8, 188#8] = true := by decide

/-- Section 3.4: CAPTURE 3,200 leaves (PROMO, 37, 420, 300/0) and (PAID, -, -, 10,000/0). -/
theorem test_capture : after .capture (serving (.capture 881 3200) held) (fun t =>
    (t.cardAt 0).map (·.lots) == some [⟨keySponsor, 300, 0⟩, ⟨keyPaid, 10000, 0⟩] &&
    (t.merchant 37).position.sponsorCost == 1200 && (t.merchant 12).position.redeemed == 3200) = true := by decide

/-- Section 1.10: RELEASE on day 401 expires the 2,000 returned. -/
theorem test_release : answers (.release 881) { held with clock := { held.clock with day := 401 } }
    [0#8, 1#8, 0#8, 0#8, 3#8, 113#8, 1#8, 0#8, 0#8, 15#8, 160#8, 1#8, 0#8, 0#8, 7#8, 208#8, 1#8, 0#8] = true := by decide

/-- Section 3.6: a partial SALE takes what the card has. -/
theorem test_sale : answers (.sale cardA 12 1 20000 1) start
    [1#8, 1#8, 0#8, 0#8, 52#8, 188#8, 1#8, 0#8, 0#8, 39#8, 16#8, 1#8, 0#8, 0#8, 13#8, 172#8, 1#8, 0#8, 0#8, 0#8, 0#8] = true := by
  decide

theorem test_basketOpen : answers (.basketOpen 12 4 (some 10)) { start with hold := { start.hold with basketSerial := 77 } }
    [0#8, 1#8, 0#8, 0#8, 0#8, 77#8, 1#8, 0#8, 10#8] = true := by decide
theorem test_basketCapture : after .basketCapture (serving (.basketCapture 77 3200) basketed) (fun t =>
    t.hold.baskets == [] && t.hold.holds == [] && (t.merchant 12).position.captureCount == 1) = true := by decide
theorem test_basketRelease : answers (.basketRelease 77) basketed
    [0#8, 1#8, 0#8, 0#8, 0#8, 77#8, 1#8, 0#8, 1#8, 1#8, 0#8, 0#8, 15#8, 160#8, 1#8, 0#8, 0#8, 0#8, 0#8] = true := by decide

/-- Section 4.6: with allowance 5,000 a REFUND of 3,000 leaves room 2,000, and one of 5,001 is refused. -/
theorem test_refund : after .refund (serving (.refund cardA 12 1 3000) start) (fun t =>
    (t.merchant 12).refundRoom == 2000) = true ∧ answers (.refund cardA 12 1 5001) start [22#8] = true := by decide

theorem test_terminalClear : after .terminalClear (serving (.terminalClear 12 6) held) (fun t =>
    t.hold.holds == [] && (t.merchant 12).openHolds == 0 && (t.merchant 12).position == Position.zero) = true := by decide

/-- Section 3.7: the tick that brings the minutes left to 0 makes the hold LAPSING and lists it. -/
theorem test_minuteTick : after .minuteTick
    { held with hold := ⟨[{ hold881 with minutes := some 1 }], 882, [], 1, [], 1⟩ } (fun t =>
    t.hold.holds.map (·.state) == [.lapsing] && t.hold.lapse == [.hold 881] && t.arbiter.holder == some .lapseWork) = true := by
  decide

/-- A basket's lapse takes its members along (R80), and lapse work on the last of them frees the basket (R81). -/
theorem test_basketLapse : after .basketLapse { basketed with
      hold := { basketed.hold with ticksDue := 1, baskets := [⟨77, .opened, 12, 6, [881], 1⟩] } } (fun t =>
    t.hold.holds.map (·.state) == [.lapsing] && t.hold.baskets.map (·.state) == [.lapsing]) = true := by decide
theorem test_lapseWork : after .lapseWork (granted .lapseWork { basketed with hold := { basketed.hold with
      holds := [{ hold881 with state := .lapsing, minutes := none, basket := some 77 }]
      baskets := [⟨77, .lapsing, 12, 6, [881], 0⟩], lapse := [.hold 881] } }) (fun t =>
    t.hold.holds == [] && t.hold.baskets == [] && t.hold.lapse == []) = true := by decide

/-! ### Merchants and fees (chapters 5 and 6) -/

/-- Section 5.3: another schedule is staged, the active one cancels what was staged. -/
theorem test_merchantSet : updatedMerchant 22 .active 3 5000 1 { shop with schedule := 2 } =
      { shop with schedule := 2, nextSchedule := some 3, allowance := 5000, payoutRef := 1 } ∧
    (updatedMerchant 22 .active 2 8000 1 { shop with schedule := 2, nextSchedule := some 3 }).nextSchedule = none := by decide

theorem test_merchantRemove : answers (.merchantRemove 12) held [23#8] = true ∧
    answers (.merchantRemove 300) held [0#8, 1#8, 0#8, 1#8, 1#8] = true := by decide

/-- The schedules of section 6.4. -/
def schedule2 : Schedule := ⟨5, 1000000, 5000000, 20000000, 250, 200, 150, 100, 0⟩
def schedule3 : Schedule := ⟨20, 0, 0, 0, 0, 0, 0, 300, 1500⟩
def schedule4 : Schedule := ⟨10, 50000, 60000, 70000, 300, 200, 100, 50, 0⟩

/-- Section 6.4: a capture that crosses a boundary, and one that falls across all four tiers. -/
theorem test_tierSplit : tierSplit schedule2 990000 25000 = 5500000 ∧ tierSplit schedule4 45000 30000 = 4750000 := by decide

/-- Section 6.5: rounding half up, the cap, and the limit to REDEEMED. -/
theorem test_feeOf :
    feeOf schedule2 { Position.zero with redeemed := 1015000, feeUnits := 253012345, captureCount := 413 } = 27366 ∧
    feeOf schedule3 { Position.zero with redeemed := 40000, feeUnits := 12000000, captureCount := 60 } = 1500 ∧
    feeOf schedule3 { Position.zero with redeemed := 900, feeUnits := 270000, captureCount := 90 } = 900 := by decide

/-- Section 6.2: a second staged copy answers REPLACED. -/
theorem test_scheduleStage : after .scheduleStageWrite
    (serving (.scheduleWrite 3 schedule4) { ready with schedules := [(3, ⟨schedule3, some schedule2⟩)] }) (fun t =>
    t.schedules == [(3, ⟨schedule3, some schedule4⟩)] &&
    t.link.answers.map (fun a => (a.drop 5).take 6) == [[0#8, 1#8, 0#8, 3#8, 1#8, 1#8]]) = true := by decide

/-! ### Periods and payout (chapters 7 and 8) -/

/-- The positions of section 7.6, period 41, on the eve of its cut. -/
def eve : State := { ready with
  clock := { ready.clock with day := 903 }
  cards := { ready.cards with paidOutstanding := 112500 }
  merchants := [(0, { shop with position := { Position.zero with sponsorCost := 2000, breakage := 500 } }),
    (5, { shop with schedule := 1, position := ⟨20000, 2000, 0, 0, 0, 0, 100000, 1⟩ }),
    (7, { shop with position := ⟨0, 8000, 1000, 0, 0, 0, 300000, 1⟩ })]
  period := { ready.period with number := 41, openDay := 900, openingPaid := 100000 } }

/-- Section 7.6: the NETs are -1,460, -18,010 and 6,970, and period 42 opens with paid outstanding 112,500. -/
theorem test_cut : after .cut (granted .periodController eve) (fun t =>
    t.period.snapshot.closed.map (fun e => (e.1, e.2.net)) == [(0, -1460), (5, -18010), (7, 6970)] &&
    t.period.number == 42 && t.period.openingPaid == 112500 && t.stands .cutTaken) = true := by decide

/-- A merchant whose NET lies one below its least. -/
def overdrawn : State := { eve with
  merchants := [(0, shop), (5, { shop with position := { Position.zero with refunded := 281474976710655, sold := 2 } })] }

/-- Section 7.6: fees of 10 and 30 are the operator's FEE_INCOME; and a NET one below its least raises SATURATED (R135). -/
theorem test_cut_fees : after .cut (granted .periodController eve) (fun t =>
    t.period.snapshot.closed.map (fun e => (e.2.fee, e.2.feeIncome)) == [(0, 40), (10, 0), (30, 0)] &&
    !t.stands .saturated) = true ∧
  after .cut (granted .periodController overdrawn) (fun t =>
    (t.period.snapshot.closedAt 5).net == -281474976710656 && t.stands .saturated) = true := by decide

/-- Section 7.7: cut work that meets a snapshot that is not EMPTY defers, and a release lets the cut wait again. -/
theorem test_deferral : after .cut (granted .periodController
      { eve with period := { eve.period with snapshot := { Snapshot.blank with state := .paying } } }) (fun t =>
    t.period.cutPending == .deferred && t.stands .cutDeferred) = true := by decide
theorem test_periodRelease : answers .periodRelease { ready with period := { ready.period with
      cutPending := .deferred, snapshot := { Snapshot.blank with state := .paid, period := 41 } } }
    [0#8, 1#8, 0#8, 41#8, 1#8, 1#8] = true := by decide

/-- A walk that has come to index 5 of the closed positions of section 8.9. -/
def walking (position : Nat) (queue : List PayoutEntry) : State := { ready with
  period := { ready.period with snapshot := ⟨.paying, 41, 900, 903, 100000, 112500, 0,
    [(0, { ClosedPosition.blank with net := -1460, listed := true }),
     (5, { ClosedPosition.blank with net := -18010, listed := true })]⟩ }
  payout := ⟨⟨.walking, position, .interleaved, 41, 100000, 112500, 1, 0, 1460, -1460⟩, queue, false⟩ }

/-- Section 8.9: index 5 makes record #2, a DEBIT, and the totals follow; index 6 is skipped. -/
theorem test_walkUnit : after .walkUnit (granted .payoutWalker (walking 5 [])) (fun t =>
    t.payout.run.recordCount == 2 && t.payout.run.debit == 19470 && t.payout.run.net == -19470 &&
    t.payout.queue.length == 1) = true ∧
  after .walkUnit (granted .payoutWalker (walking 6 [])) (fun t => t.payout.queue.isEmpty && t.payout.run.position == 7) = true := by
  decide

theorem test_trailer : after .trailerAppend (walking 512 []) (fun t => t.payout.queue ==
    [.trailer ⟨41, 1, 0, 1460, -1460, 100000, 112500⟩] && t.payout.run.state == .draining) = true := by decide

/-- Section 8.9: the removal of the trailer completes the run. -/
theorem test_payoutRead : after .payoutRead (queued (Request.payoutRead.frame 1#16) { walking 512 [.trailer ⟨41, 1, 0, 1460, -1460, 0, 0⟩] with
      payout := ⟨{ (walking 512 []).payout.run with state := .draining }, [.trailer ⟨41, 1, 0, 1460, -1460, 0, 0⟩], false⟩ }) (fun t =>
    t.payout.run == Run.idle && t.period.snapshot.state == .paid && t.stands .payoutDone) = true := by decide

theorem test_payoutStart : answers .payoutStart { ready with period := { ready.period with
    snapshot := { Snapshot.blank with state := .closed, period := 41 } } } [0#8, 1#8, 0#8, 41#8, 1#8, 0#8, 1#8, 0#8] = true := by
  decide

/-! ### Clock, routes, sweep (chapter 9) -/

/-- Section 9.2: the third silent divider second is the first advance in FALLBACK. -/
theorem test_fallback : after .dividerSecond { ready with clock := ⟨10, 3600, true, .external, 2, false⟩ } (fun t =>
    t.clock == ⟨10, 3601, true, .fallback, 3, false⟩ && t.stands .clockFallback) = true := by decide

/-- Section 9.2: the edge that takes the source back does not advance the second, and a later one does. -/
theorem test_edge : after .timerefEdge { ready with clock := ⟨10, 3602, true, .fallback, 3, false⟩ } (fun t =>
    t.clock == ⟨10, 3602, true, .external, 0, false⟩) = true ∧
  after .timerefEdge { ready with clock := ⟨10, 3599, true, .external, 1, false⟩ } (fun t =>
    t.clock.second == 3600 && t.hold.ticksDue == 1) = true := by decide

/-- A day roll at counter 1 requests a cut, which the Period Controller is granted (R127, R130). -/
theorem test_dayRoll : after .dayRoll { ready with clock := { ready.clock with rollDue := true } } (fun t =>
    t.clock.day == 399 && t.period.counterState == .expired && t.period.cutPending == .waiting) = true := by decide

theorem test_setClock : answers (.setClock 397 0) ready [3#8] = true ∧
    answers (.setClock 398 0) ready [0#8, 1#8, 1#8, 142#8, 1#8, 0#8, 0#8, 0#8, 0#8, 1#8, 0#8] = true := by decide

/-- The first sweep unit of section 9.7: A and B are retired, and the position is 3. -/
def swept : State := { ready with
  clock := { ready.clock with day := 1500 }
  merchants := [(0, shop), (40, { shop with sponsored := 300 })]
  cards := ⟨[(0, ⟨18, .active, [], 0, 700⟩), (2, ⟨26, .active, [⟨⟨.promo, some 40, some 1499⟩, 300, 0⟩], 0, 760⟩),
    (3, ⟨34, .suspended, [], 0, 100⟩)], [(18, 0), (26, 2), (34, 3)], 0, 300⟩
  sweep := ⟨.sweeping, 0, false, .interleaved, 2⟩ }
theorem test_sweepUnit : after .sweepUnit (granted .expirySweep swept) (fun t =>
    t.cards.slots.map (·.1) == [3] && t.sweep.position == 3 && (t.merchant 40).position.promoLapsed == 300) = true := by decide
theorem test_sweepStart : answers .sweepStart ready [0#8, 1#8, 0#8, 1#8, 1#8, 1#8, 0#8, 0#8, 0#8, 0#8, 1#8, 0#8] = true := by
  decide

/-! ### Link, status, settings, store (chapters 10 and 11) -/

/-- The first row of section 11.2: a frame that finds the intake queue full is discarded. -/
theorem test_overrun : after (.put (Request.status.frame 217#16).bytes)
    { ready with link := { ready.link with intake := List.replicate 16 (Request.status.frame 1#16) } } (fun t =>
    t.link.intake.length == 16 && t.stands .intakeOverrun) = true := by decide

theorem test_take : after (.take 5) { ready with link := { ready.link with answers := [[0#8, 1#8, 9#8]] } } (fun t =>
    t.link.answers == [] && t.link.sdo == [0#8, 1#8, 9#8, 0#8, 0#8]) = true := by decide

theorem test_statusClear : after .statusClear (queued ((Request.statusClear 512).frame 1#16)
      { ready with link := { ready.link with latched := 516#16, watchHits := 40#8 } }) (fun t =>
    t.link.latched == 4#16 && t.link.watchHits == 0#8) = true := by decide

/-- A value outside its range is set to the nearer end (R195). -/
theorem test_config : after .config (serving (.config ⟨some 0, some 2000000, none, some 5, none, none, none, none, none, none, some 65, none⟩)
      ready) (fun t => t.settings.holdMinutes == 1 && t.settings.cardLimit == 1000000 && t.settings.dormantDays == 30 &&
    t.settings.sweepBlock == 64 && t.settings.periodDays == 1) = true := by decide

/-- Section 10.5: the mount returns what was held, and makes the CLOSING card with value ACTIVE. -/
theorem test_mount : after .mountComplete { reserved with
      store := ⟨.mounting, false, true, .settings, false, true⟩
      cards := { reserved.cards with slots := [(7, ⟨cardA, .closing, [⟨keyPaid, 3000, 500⟩], 2, 800⟩)], directory := [] } } (fun t =>
    (t.cardAt 7) == some ⟨cardA, .active, [⟨keyPaid, 3500, 0⟩], 0, 800⟩ && t.cards.directory == [(cardA, 7)] &&
    t.stands .storeReady) = true := by decide

/-- From power-on, with nothing placed, a FORMAT makes the store READY. -/
theorem test_format : after .format (serving .format State.reset) (fun t =>
    t.store.state == .ready && t.merchants == [(0, Merchant.operator)] && t.stands .storeReady) = true := by decide

/-- STATUS is served while a park waits for a unit, in the store state that still stands (R183, R193), and not once PARKED. -/
theorem test_status_before_park :
    after .status (queued (Request.status.frame 7#16) { granted .lapseWork ready with
      store := { ready.store with parking := true, powerGood := false } }) (fun t => t.link.answers.length == 1) = true ∧
    after .status (queued (Request.status.frame 7#16) { ready with store := { ready.store with state := .parked } }) (fun t =>
      t.link.answers == []) = true := by decide

theorem test_park : after .powerGoodFall (granted .payoutWalker (walking 5 [])) (fun t =>
    t.store.state == .ready && t.store.parking) = true ∧
  after .powerGoodFall ready (fun t => t.store.state == .parked) = true := by decide

/-- The frames in the intake queue are discarded as the store becomes PARKED, and stand while a unit still runs (R183). -/
theorem test_park_intake :
    let s := queued (Request.status.frame 7#16) ready
    after .powerGoodFall (granted .lapseWork s) (fun t => t.link.intake.length == 1) = true ∧
    after .powerGoodFall s (fun t => t.link.intake == []) = true ∧
    after .park { s with store := { s.store with parking := true } } (fun t => t.link.intake == []) = true := by decide

/-! ### States that meet the statements' hypotheses -/

theorem progress {r : Request} {s : State} (h : (r.frame 7#16).request = some r) (k : s.store.state = .ready) :
    (serving r s).InProgress (r.frame 7#16) r := ⟨rfl, h, rfl, k⟩

theorem nextTaken {r : Request} {s : State} (h : s.engine.current = none)
    (k : (queued (r.frame 7#16) s).mayTake = true) : (queued (r.frame 7#16) s).Next (r.frame 7#16) [] := ⟨h, rfl, k⟩

theorem passes {s : State} {ns : List Nat} (h : s.store.state = .ready ∧ s.clock.isSet = true ∧
    (∀ n ∈ ns, validNumber n = true) ∧ (∀ n ∈ ns, s.declined n = false)) : s.PassesFront ns := ⟨h.1, h.2.1, h.2.2.1, h.2.2.2⟩

theorem formed {s : State} (h : tableWf s.cards.slots ∧ (∀ e ∈ s.cards.slots, e.1 < Config.cardSlots) ∧
    tableWf s.cards.directory ∧ tableWf s.watch ∧ (∀ e ∈ s.watch, e.1 < Config.watchEntries) ∧
    tableWfD Merchant.unlisted s.merchants ∧ tableWfD ScheduleEntry.blank s.schedules ∧
    (∀ e ∈ s.schedules, e.1 < Config.schedules) ∧ tableWf s.period.snapshot.closed) : s.TablesFormed :=
  ⟨h.1, h.2.1, h.2.2.1, h.2.2.2.1, h.2.2.2.2.1, h.2.2.2.2.2.1, h.2.2.2.2.2.2.1, h.2.2.2.2.2.2.2.1, h.2.2.2.2.2.2.2.2⟩

theorem lotsFormed {lots : List Lot} (h : lots.length ≤ Config.lotsPerCard ∧ (lots.map (·.key)).Nodup ∧
    lots.Pairwise (fun a b => sortsBefore b.key a.key = false) ∧ (∀ l ∈ lots, 0 < l.available + l.held)) : LotsFormed lots :=
  ⟨h.1, h.2.1, h.2.2.1, h.2.2.2⟩

/-- The basketed state keeps every law of the device, whatever is in service. -/
theorem basketed_laws (s : State) (h : s = (serving (.basketRelease 77) basketed).setPending [.basketRelease]) :
    s.LawsKept := by
  subst h
  have at0 : ∀ {slot : Nat} {c : Card}, tableFind basketed.cards.slots slot = some c →
      slot = 0 ∧ c = ⟨cardA, .active, [⟨keyZero, 0, 2000⟩, ⟨keySponsor, 0, 1500⟩, ⟨keyPaid, 9500, 500⟩], 1, 390⟩ := by
    intro slot c k
    by_cases z : slot = 0
    · subst z; exact ⟨rfl, (Option.some.inj k).symm⟩
    · simp [basketed, held, tableFind, Ne.symm z] at k
  have merchant (i : Nat) : (State.merchant basketed i) = if i = 0 then { shop with sponsored := 2000 }
      else if i = 12 then { shop with allowance := 5000, openHolds := 1 }
      else if i = 37 then { shop with sponsored := 1500 } else Merchant.unlisted := by
    by_cases a : i = 0
    · subst a; rfl
    by_cases b : i = 12
    · subst b; rfl
    by_cases c : i = 37
    · subst c; rfl
    simp [State.merchant, basketed, held, tableGet, tableFind, a, b, c, Ne.symm a, Ne.symm b, Ne.symm c]
  have sponsored (i : Nat) : sponsoredValue i (State.allLots basketed) = if i = 0 then 2000 else if i = 37 then 1500 else 0 := by
    by_cases a : i = 0
    · subst a; rfl
    by_cases b : i = 37
    · subst b; rfl
    simp [sponsoredValue, State.allLots, basketed, held, lotsValue, a, b, Ne.symm a, Ne.symm b]
  refine ⟨⟨?_, by decide, by decide, by decide, by decide, rfl, ?_, by decide, by decide, ?_, ?_⟩, fun _ =>
    ⟨?_, rfl, rfl, ?_, ?_, ?_, ?_, ?_, by decide, by decide, ⟨by decide, by decide, by decide, ?_, ?_, ?_, by decide, ?_, ?_⟩⟩⟩
  · intro e he
    obtain rfl : e = _ := List.mem_singleton.mp he
    exact lotsFormed (by decide)
  · intro i k
    have k : sponsoredValue i (State.allLots basketed) ≠ 0 ∨ (State.merchant basketed i).position ≠ Position.zero := k
    show (State.merchant basketed i).state ≠ .unlisted
    by_cases a : i = 0
    · subst a; decide
    by_cases b : i = 12
    · subst b; decide
    by_cases c : i = 37
    · subst c; decide
    rw [sponsored, merchant] at k
    simp [a, b, c, Merchant.unlisted] at k
  · rintro (k | k) <;> cases k
  · intro k; cases k
  · intro n slot
    constructor
    · intro k
      by_cases z : n = cardA
      · subst z; obtain rfl : 0 = slot := Option.some.inj k; exact ⟨_, rfl, rfl⟩
      · simp [State.setPending, serving, basketed, held, tableFind, Ne.symm z] at k
    · rintro ⟨c, k, rfl⟩
      obtain ⟨rfl, rfl⟩ := at0 k
      rfl
  · intro i
    show (State.merchant basketed i).sponsored = sponsoredValue i (State.allLots basketed)
    by_cases a : i = 0
    · subst a; decide
    by_cases b : i = 37
    · subst b; decide
    rw [sponsored, merchant]
    simp only [a, b, if_false]
    split <;> rfl
  · intro slot c k key
    obtain ⟨rfl, rfl⟩ := at0 k
    by_cases a : key = keyZero
    · subst a; decide
    by_cases b : key = keySponsor
    · subst b; decide
    by_cases c : key = keyPaid
    · subst c; decide
    have a := Ne.symm a; have b := Ne.symm b; have c := Ne.symm c
    simp [heldUnder, reservedBy, State.holdsOf, State.setPending, serving, basketed, hold881, a, b, c]
  · intro slot c k
    obtain ⟨rfl, rfl⟩ := at0 k
    decide
  · intro i
    show (State.merchant basketed i).openHolds = _
    rw [merchant]
    by_cases a : i = 12
    · subst a; decide
    simp [HoldTable.atMerchant, State.setPending, serving, basketed, hold881, a, Ne.symm a]
    split <;> simp_all [shop, Merchant.unlisted]
    split <;> simp_all
  · intro h k
    obtain rfl : h = _ := List.mem_singleton.mp k
    exact ⟨_, rfl⟩
  · intro b k n
    obtain rfl : b = _ := List.mem_singleton.mp k
    simp [State.setPending, serving, basketed, hold881, eq_comm]
  · intro h k n e
    obtain rfl : h = _ := List.mem_singleton.mp k
    obtain rfl : 77 = n := Option.some.inj e
    exact ⟨_, List.mem_singleton.mpr rfl, rfl⟩
  · intro h k b j _
    obtain rfl : h = _ := List.mem_singleton.mp k
    obtain rfl : b = _ := List.mem_singleton.mp j
    decide
  · intro n
    simp [State.setPending, serving, basketed, held, hold881]
  · intro n
    simp [State.setPending, serving, basketed, held]

/-- A command in front, none with the store READY, and none with the mount at work. -/
theorem witness_StepRunsFrontCommand : (ready.setPending [.status]).pending = .status :: [] ∧
    (ready.pending = [] ∧ ready.store.state ≠ .mounting) ∧
    (mounting (.cards 0)).pending = [] ∧ (mounting (.cards 0)).store.state = .mounting := by decide

theorem witness_StepKeepsCapacity : ∃ s t : State, s.WithinCapacity ∧ step s = .next t :=
  ⟨(granted .payoutWalker (walking 511 (List.replicate 31 (.record (payoutRecord 1 0 ClosedPosition.blank))))).setPending
      [.walkUnit], _, ⟨by decide, by decide, by decide, by decide, by decide, by decide, by decide, by decide, by decide, by decide,
      by decide, by decide, by decide⟩, rfl⟩

theorem witness_StepKeepsTables : ∃ s t : State, s.TablesFormed ∧ s.TablesInRange ∧ s.cards.slots ≠ [] ∧ step s = .next t :=
  ⟨(serving (.release 881) basketed).setPending [.release], _, formed (by decide),
    ⟨by decide, by decide, by decide, by decide, by decide, by decide, by decide⟩, by decide, rfl⟩

theorem witness_StepKeepsLots : ∃ s t : State, s.LotsKept ∧ s.cards.slots ≠ [] ∧ step s = .next t :=
  ⟨(serving (.sale cardA 12 1 20000 1) start).setPending [.sale], _,
    by intro e he; simp only [State.setPending, serving, start, List.mem_singleton] at he; subst he
       exact lotsFormed (by decide), by decide, rfl⟩

/-- A card with a hold in a basket keeps every law of the device. -/
theorem witness_StepKeepsLaws : ∃ s t : State, s.TablesFormed ∧ s.LawsKept ∧ s.hold.baskets ≠ [] ∧ s.store.state = .ready ∧
    step s = .next t :=
  ⟨(serving (.basketRelease 77) basketed).setPending [.basketRelease], _, formed (by decide), basketed_laws _ rfl, by decide, rfl,
    rfl⟩

theorem witness_DayNeverDecreases : ∃ s t : State, s.ClockInRange ∧ step s = .next t ∧ s.clock.isSet = true ∧
    t.clock.isSet = true :=
  ⟨({ ready with clock := ⟨65535, 86399, true, .fallback, 3, true⟩ } : State).setPending [.dayRoll], _,
    ⟨by decide, by decide, by decide, by decide⟩, rfl, rfl, by decide⟩

theorem witness_StepKeepsRunMatched : ∃ s t : State, s.RunMatched ∧ s.payout.run.state = .walking ∧ step s = .next t :=
  ⟨({ walking 512 [] with payout := ⟨⟨.walking, 512, .interleaved, 41, 0, 0, 1, 0, 1460, -1460⟩, [], false⟩ } : State).setPending
      [.trailerAppend], _, ⟨by decide, by decide, by decide, by decide, by decide, by decide, by decide⟩, rfl, rfl⟩

theorem witness_SnapshotFixedUntilEmptied : ∃ s t : State, s.period.snapshot.state ≠ .empty ∧ step s = .next t :=
  ⟨(walking 512 []).setPending [.trailerAppend], _, by decide, rfl⟩

/-- Every field at its greatest number. -/
theorem witness_FramesRoundTrip : (Request.sale 18446744073709551615 65535 65535 4294967295 255).fits = true ∧
    (⟨255#8, 65535#16, List.replicate 250 0#8⟩ : Frame).body.length ≤ 250 := ⟨by decide, Nat.le_of_eq List.length_replicate⟩

theorem witness_PutQueuesOrDiscards :
    (ready.store.state ≠ .parked ∧ (List.replicate 15 (Request.status.frame 1#16)).length < 16) ∧
    16 ≤ (List.replicate 16 (Request.status.frame 1#16)).length ∧
    (numberOf (([0#8, 2#8, 80#8, 0#8] : List Byte).take 2) < 3 ∧ 253 < numberOf (([0#8, 254#8] : List Byte).take 2) ∧
      ([0#8, 3#8, 80#8, 0#8] : List Byte).length ≠ 2 + numberOf (([0#8, 3#8, 80#8, 0#8] : List Byte).take 2)) ∧
    ({ ready with store := { ready.store with state := .parked } } : State).store.state = .parked ∧
    (0#8 ≠ 1#8 ∧ 0#8 ≠ 2#8 ∧ 0#8 ≠ 3#8) := by decide

theorem witness_TakeReadsOldestAnswer :
    let s : State := { ready with link := { ready.link with answers := [[0#8, 1#8, 9#8]] } }
    s.store.state ≠ .parked ∧ s.link.answers = [0#8, 1#8, 9#8] :: [] ∧ ([0#8, 1#8, 9#8] : List Byte).length ≤ 3 ∧
    2 < ([0#8, 1#8, 9#8] : List Byte).length ∧ ready.link.answers = [] := by decide

/-- A request in progress that LINK_RESET finds. -/
theorem witness_LinkResetEmptiesQueues :
    let s := serving (.inquire cardA) start
    s.engine.current = some ((Request.inquire cardA).frame 7#16) ∧
    s.resetLink.engine = ⟨some ((Request.inquire cardA).frame 7#16), true⟩ ∧ Condition.watchHit ≠ .answerReady := by decide

theorem witness_ArbiterGrantsFirstInTurn :
    let s : State := { ready with sweep := ⟨.sweeping, 0, false, .interleaved, 16⟩ }
    s.arbiter.holder = none ∧ s.MayHold .expirySweep ∧ (∀ d, s.MayHold d → s.turn .expirySweep ≤ s.turn d) ∧
    (∀ c, ¬ ready.MayHold c) ∧ (granted .lapseWork ready).arbiter.holder ≠ none := by
  refine ⟨rfl, ⟨rfl, rfl⟩, ?_, ?_, by decide⟩
  · intro d h
    cases d
    case expirySweep => exact le_refl _
    all_goals exact absurd h.1 (by decide)
  · intro c h
    cases c <;> exact absurd h.1 (by decide)

theorem witness_UnservedFramesAnswered :
    ((queued ⟨255#8, 7#16, []⟩ ready).Next ⟨255#8, 7#16, []⟩ [] ∧ kindOf 255#8 = none) ∧
    (let s : State := { ready with store := { ready.store with state := .mounting } }
     (queued (Request.configRead.frame 7#16) s).Next (Request.configRead.frame 7#16) [] ∧
     (Request.configRead.frame 7#16).request = some .configRead ∧ Request.configRead ≠ .status) ∧
    ((queued (Request.sweepStart.frame 7#16) State.reset).Next (Request.sweepStart.frame 7#16) [] ∧
     (Request.sweepStart.frame 7#16).request = some .sweepStart ∧ State.reset.store.state = .unformatted) ∧
    ((queued (Request.format.frame 7#16) ready).Next (Request.format.frame 7#16) [] ∧
     (Request.format.frame 7#16).request = some .format) :=
  ⟨⟨⟨rfl, rfl, rfl⟩, rfl⟩, ⟨nextTaken rfl rfl, rfl, by decide⟩, ⟨nextTaken rfl rfl, rfl, rfl⟩, nextTaken rfl rfl, rfl⟩

theorem witness_FrontChecksInOrder :
    ((Request.inquire cardA).cardNumbers ≠ [] ∧ (serving (.inquire cardA) start).InProgress ((Request.inquire cardA).frame 7#16)
      (.inquire cardA) ∧ start.clock.isSet = true ∧ validNumber cardA = true) ∧
    (serving (.inquire 1) start).InProgress ((Request.inquire 1).frame 7#16) (.inquire 1) ∧ validNumber 1 = false ∧
    State.declined { start with watch := [(7, ⟨cardA, .decline⟩)] } cardA = true ∧
    State.reset.clock.isSet = false ∧
    (kindOf 3#8 = some (Request.inquire cardA).kind ∧ (⟨3#8, 7#16, []⟩ : Frame).request = none) ∧
    (15 < 16 ∧ 9 < 10 ∧ 9 ≠ cardA / 10 ^ 15 % 10 ∧ validNumber (cardA - cardA / 10 ^ 15 % 10 * 10 ^ 15 + 9 * 10 ^ 15) = false) :=
  ⟨⟨by decide, progress rfl rfl, rfl, rfl⟩, progress rfl rfl, rfl, by decide, rfl, ⟨rfl, rfl⟩, by decide⟩

theorem witness_RefusedCardRequestChangesNothing : (Request.sale cardA 12 1 20000 0).cardNumbers ≠ [] ∧
    (serving (.sale cardA 12 1 20000 0) start).InProgress ((Request.sale cardA 12 1 20000 0).frame 7#16)
      (.sale cardA 12 1 20000 0) ∧
    ((Request.sale cardA 12 1 20000 0).work start).1.result = .insufficient ∧
    ((Request.sale cardA 12 1 0 0).work start).1.result = .badValue := ⟨by decide, progress rfl rfl, by decide, by decide⟩

theorem witness_IssueCreatesCard :
    let q := some (⟨1000, 37, 398 + 3650⟩ : PromoIssue)
    let s := serving (.issue cardB 12 1000 q) start
    s.InProgress ((Request.issue cardB 12 1000 q).frame 7#16) (.issue cardB 12 1000 q) ∧ s.TablesFormed ∧ s.PassesFront [cardB] ∧
    issueInRange s.clock.day 12 1000 q = true ∧ (s.merchant 12).state = .active ∧
    (∀ x, q = some x → (s.merchant x.sponsor).state = .active) ∧ tableFind s.cards.directory cardB = none ∧ 1 < 131072 ∧
    s.cardAt 1 = none ∧ (∀ j < 1, s.cardAt j ≠ none) ∧ 1000 + promoAmount q ≤ s.cfg.cardLimit :=
  ⟨progress rfl rfl, formed (by decide), passes (by decide), by decide, rfl, fun _ h => Option.some.inj h ▸ rfl, rfl, by decide, rfl, by decide, by decide⟩

/-- The amount that brings the card to CARD_LIMIT. -/
theorem witness_LoadCreditsCard :
    let q := some (⟨37, 420⟩ : PromoLoad)
    let c : Card := ⟨cardA, .active, [⟨keyZero, 2000, 0⟩, ⟨keySponsor, 1500, 0⟩, ⟨keyPaid, 10000, 0⟩], 0, 390⟩
    let s := serving (.load cardA 12 36500 q) start
    s.InProgress ((Request.load cardA 12 36500 q).frame 7#16) (.load cardA 12 36500 q) ∧ s.PassesFront [cardA] ∧
    loadInRange s.clock.day 12 36500 q = true ∧ (s.merchant 12).state = .active ∧
    (∀ x, q = some x → (s.merchant x.sponsor).state = .active) ∧ s.lookup cardA = some (0, c) ∧ c.state = .active ∧
    LotsFormed c.lots ∧ lotsValue (expireLots s.today c.lots) + 36500 ≤ s.cfg.cardLimit ∧
    lotsFull (loadKey s.cfg.paidExpiryDays s.clock.day q) (expireLots s.today c.lots) = false :=
  ⟨progress rfl rfl, passes (by decide), by decide, rfl, fun _ h => Option.some.inj h ▸ rfl, rfl, rfl, lotsFormed (by decide), by decide, by decide⟩

/-- A key that a lot has, and a key level with a lot of another sponsor, which no lot has. -/
theorem witness_CreditMergesOrInserts :
    let lots : List Lot := [⟨keyZero, 2000, 0⟩, ⟨keyPaid, 0, 1⟩]
    LotsFormed lots ∧ 0 < 1 ∧ (lotsFull keyZero lots = false ∧ ∃ l ∈ lots, l.key = keyZero) ∧
    lotsFull ⟨.promo, some 511, some 400⟩ lots = false ∧ ∀ l ∈ lots, l.key ≠ ⟨.promo, some 511, some 400⟩ :=
  ⟨lotsFormed (by decide), by decide, by decide, by decide, by decide⟩

theorem witness_InquireReportsCard :
    let s := serving (.inquire cardA) held
    s.InProgress ((Request.inquire cardA).frame 7#16) (.inquire cardA) ∧ s.PassesFront [cardA] ∧ (s.lookup cardA).isSome = true :=
  ⟨progress rfl rfl, passes (by decide), by decide⟩

/-- A SUSPENDED card, and a CLOSING one. -/
theorem witness_SuspendResumeSetState :
    let c : Card := ⟨cardA, .suspended, [], 0, 390⟩
    let s : State := { start with cards := ⟨[(0, c)], [(cardA, 0)], 0, 0⟩ }
    let k : Card := ⟨cardA, .closing, [⟨keyPaid, 0, 500⟩], 1, 390⟩
    let t : State := { start with cards := ⟨[(0, k)], [(cardA, 0)], 500, 0⟩ }
    ((serving (.suspend cardA) s).PassesFront [cardA] ∧ s.lookup cardA = some (0, c) ∧ c.state ≠ .closing ∧
      (serving (.suspend cardA) s).InProgress ((Request.suspend cardA).frame 7#16) (.suspend cardA) ∧
      (serving (.resume cardA) s).InProgress ((Request.resume cardA).frame 7#16) (.resume cardA)) ∧
    ((serving (.suspend cardA) t).PassesFront [cardA] ∧ t.lookup cardA = some (0, k) ∧ k.state = .closing ∧
      (serving (.suspend cardA) t).InProgress ((Request.suspend cardA).frame 7#16) (.suspend cardA) ∧
      (serving (.resume cardA) t).InProgress ((Request.resume cardA).frame 7#16) (.resume cardA)) :=
  ⟨⟨passes (by decide), rfl, by decide, progress rfl rfl, progress rfl rfl⟩,
    passes (by decide), rfl, rfl, progress rfl rfl, progress rfl rfl⟩

/-- A card without value, one whose value is all held, and one with one cent available. -/
theorem witness_CloseRetiresOrCloses :
    let on (c : Card) : State := serving (.close cardA) { start with cards := ⟨[(0, c)], [(cardA, 0)], 0, 0⟩ }
    let a : Card := ⟨cardA, .active, [], 0, 390⟩
    let b : Card := ⟨cardA, .active, [⟨keyPaid, 0, 500⟩], 1, 390⟩
    let d : Card := ⟨cardA, .active, [⟨keyPaid, 1, 500⟩], 1, 390⟩
    (∀ c, (on c).InProgress ((Request.close cardA).frame 7#16) (.close cardA) ∧ (on c).PassesFront [cardA] ∧
      (on c).lookup cardA = some (0, c)) ∧
    (a.state ≠ .closing ∧ (∀ l ∈ expireLots (on a).today a.lots, l.available = 0) ∧ a.openHolds = 0) ∧
    (b.state ≠ .closing ∧ (∀ l ∈ expireLots (on b).today b.lots, l.available = 0) ∧ b.openHolds ≠ 0) ∧
    (d.state ≠ .closing ∧ ∃ l ∈ expireLots (on d).today d.lots, l.available ≠ 0) :=
  ⟨fun _ => ⟨progress rfl rfl, ⟨rfl, rfl, by decide, fun _ _ => rfl⟩, rfl⟩, by decide, by decide, by decide⟩

theorem witness_ReplaceRenamesCard :
    let c : Card := ⟨cardA, .active, [⟨keyZero, 2000, 0⟩, ⟨keySponsor, 1500, 0⟩, ⟨keyPaid, 10000, 0⟩], 0, 390⟩
    let s := serving (.replace cardA cardB) start
    s.InProgress ((Request.replace cardA cardB).frame 7#16) (.replace cardA cardB) ∧ s.TablesFormed ∧
    s.PassesFront [cardA, cardB] ∧ s.lookup cardA = some (0, c) ∧ tableFind s.cards.directory cardB = none ∧ c.state ≠ .closing ∧
    c.openHolds = 0 :=
  ⟨progress rfl rfl, formed (by decide), passes (by decide), rfl, rfl, by decide, rfl⟩

theorem witness_WatchSetActs :
    let s : State := { start with watch := [(7, ⟨cardA, .decline⟩)] }
    s.TablesFormed ∧ 7 < 8 ∧ validNumber cardA = true ∧ watchActionOf 1 = some .decline ∧
    (serving (.watchWrite 7 cardA 1) s).InProgress ((Request.watchWrite 7 cardA 1).frame 7#16) (.watchWrite 7 cardA 1) ∧
    (serving (.watchClear 7) s).InProgress ((Request.watchClear 7).frame 7#16) (.watchClear 7) ∧
    (serving (.watchList 7) s).InProgress ((Request.watchList 7).frame 7#16) (.watchList 7) :=
  ⟨formed (by decide), by decide, rfl, rfl, progress rfl rfl, progress rfl rfl, progress rfl rfl⟩

/-- Into basket 77, in full and in part. -/
theorem witness_AuthorizeReserves :
    let c : Card := ⟨cardA, .active, [⟨keyZero, 0, 2000⟩, ⟨keySponsor, 0, 1500⟩, ⟨keyPaid, 9500, 500⟩], 1, 390⟩
    let s (a p : Nat) := serving (.authorize cardA 12 6 a p none (some 77)) basketed
    (∀ a p, (s a p).PassesFront [cardA] ∧ (s a p).lookup cardA = some (0, c)) ∧
    (s 9500 0).InProgress ((Request.authorize cardA 12 6 9500 0 none (some 77)).frame 7#16)
      (.authorize cardA 12 6 9500 0 none (some 77)) ∧
    (s 9501 1).InProgress ((Request.authorize cardA 12 6 9501 1 none (some 77)).frame 7#16)
      (.authorize cardA 12 6 9501 1 none (some 77)) ∧
    (basketed.merchant 12).state = .active ∧ c.state = .active ∧ basketed.hold.holds.length < 8192 ∧ c.openHolds < 8 ∧
    (∃ b, basketed.hold.openBasket 77 = some b ∧ b.merchant = 12 ∧ b.members.length < 4) ∧
    (9500 ≤ lotsAvailable (expireLots basketed.today c.lots) ∧ 0 < lotsAvailable (expireLots basketed.today c.lots)) :=
  ⟨fun _ _ => ⟨⟨rfl, rfl, by decide, fun _ _ => rfl⟩, rfl⟩, progress rfl rfl, progress rfl rfl, rfl, rfl, by decide, by decide,
    ⟨_, rfl, rfl, by decide⟩, by decide⟩

theorem witness_ReservationCoversAmount : 13500 ≤ lotsAvailable [⟨keyZero, 2000, 0⟩, ⟨keySponsor, 1500, 0⟩, ⟨keyPaid, 10000, 0⟩] ∧
    (2000 ≤ lotsAvailable [⟨keyZero, 2000, 0⟩] ∧ lotsAvailable [⟨keyZero, 2000, 0⟩] < 2001) ∧
    held.hold.holds.length ≤ 8192 ∧ 1 ≤ held.hold.holdSerial ∧ held.hold.holdSerial ≤ 4294967295 := by decide

/-- The whole hold captured by amount 0 and by its amount, and released. -/
theorem witness_CaptureReleaseEndHold :
    held.clock.isSet = true ∧ held.hold.openHold 881 = some hold881 ∧ hold881.basket = none ∧ 4000 ≤ hold881.amount ∧
    (serving (.capture 881 0) held).InProgress ((Request.capture 881 0).frame 7#16) (.capture 881 0) ∧
    (serving (.capture 881 4000) held).InProgress ((Request.capture 881 4000).frame 7#16) (.capture 881 4000) ∧
    (serving (.release 881) held).InProgress ((Request.release 881).frame 7#16) (.release 881) :=
  ⟨rfl, rfl, rfl, by decide, progress rfl rfl, progress rfl rfl, progress rfl rfl⟩

/-- A hold outside a basket, and the one member of a basket. -/
theorem witness_EndOfHoldSettlesCard : (held.TablesFormed ∧ (held.cardAt hold881.slot).isSome = true ∧ hold881 ∈ held.hold.holds) ∧
    basketed.TablesFormed ∧ (basketed.cardAt hold881.slot).isSome = true ∧
    ∃ h ∈ basketed.hold.holds, h.slot = hold881.slot ∧ h.basket = some 77 :=
  ⟨⟨formed (by decide), by decide, by decide⟩, formed (by decide), by decide, by decide⟩

theorem witness_SaleTakes :
    let c : Card := ⟨cardA, .active, [⟨keyZero, 2000, 0⟩, ⟨keySponsor, 1500, 0⟩, ⟨keyPaid, 10000, 0⟩], 0, 390⟩
    let s (a p : Nat) := serving (.sale cardA 12 6 a p) start
    (s 13500 0).InProgress ((Request.sale cardA 12 6 13500 0).frame 7#16) (.sale cardA 12 6 13500 0) ∧
    (s 1000000 1).InProgress ((Request.sale cardA 12 6 1000000 1).frame 7#16) (.sale cardA 12 6 1000000 1) ∧
    (∀ a p, (s a p).PassesFront [cardA] ∧ (s a p).lookup cardA = some (0, c) ∧ ((s a p).merchant 12).state = .active) ∧
    c.state = .active ∧ 13500 ≤ lotsAvailable (expireLots start.today c.lots) :=
  ⟨progress rfl rfl, progress rfl rfl, fun _ _ => ⟨⟨rfl, rfl, by decide, fun _ _ => rfl⟩, rfl, rfl⟩, rfl, by decide⟩

theorem witness_PostingsMoveOneSum : start.TablesFormed ∧ start.cards.paidOutstanding < 281474976710655 ∧
    start.cards.promoOutstanding < 281474976710655 ∧ (start.merchant 37).sponsored < 281474976710655 ∧ (37 : Nat) ≠ 0 ∧
    281474976710655 < (start.merchant 37).position.redeemed + 281474976710656 ∧
    (start.merchant 37).position.redeemed + 281474976710655 ≤ 281474976710655 ∧
    ({ start with cards := { start.cards with paidOutstanding := 281474976710655 } } : State).cards.paidOutstanding =
      281474976710655 := ⟨formed (by decide), by decide⟩

/-- A hold and a basket in their last minute, and a hold with a minute more. -/
theorem witness_MinuteTickCountsDown :
    let s : State := { basketed with hold := ⟨[{ hold881 with minutes := none, basket := some 77 },
        { hold881 with number := 882, minutes := some 1 }, { hold881 with number := 883, minutes := some 2 }], 884,
      [⟨77, .opened, 12, 6, [881], 1⟩, ⟨78, .opened, 12, 6, [], 1⟩], 79, [], 1⟩ }
    0 < s.hold.ticksDue ∧ s.arbiter.holder = none ∧ s.hold.holds.any Hold.lapsesAlone = true ∧
    s.hold.baskets.any Basket.lapsesNext = true := by decide

theorem witness_LapseWorkFinishesOldest :
    let s := granted .lapseWork { held with hold := { held.hold with lapse := [.hold 881] } }
    let t := granted .lapseWork { held with hold := { held.hold with lapse := [.basket 77] } }
    s.arbiter.holder = some .lapseWork ∧ s.hold.lapse = .hold 881 :: [] ∧
    s.hold.holds.find? (fun e => e.number = 881) = some hold881 ∧ t.arbiter.holder = some .lapseWork ∧
    t.hold.lapse = .basket 77 :: [] := by decide

theorem witness_BasketOpenAddsBasket :
    let s := serving (.basketOpen 12 65535 (some 1441)) start
    s.InProgress ((Request.basketOpen 12 65535 (some 1441)).frame 7#16) (.basketOpen 12 65535 (some 1441)) ∧
    s.clock.isSet = true ∧ (s.merchant 12).state = .active ∧ s.hold.baskets.length < 1024 :=
  ⟨progress rfl rfl, rfl, rfl, by decide⟩

theorem witness_BasketRequestsEndMembers : basketed.clock.isSet = true ∧ (basketed.hold.openBasket 77).isSome = true ∧
    (serving (.basketCapture 77 4000) basketed).InProgress ((Request.basketCapture 77 4000).frame 7#16) (.basketCapture 77 4000) ∧
    4000 ≤ amountsOf (basketed.hold.memberHolds [881]) ∧
    (serving (.basketRelease 77) basketed).InProgress ((Request.basketRelease 77).frame 7#16) (.basketRelease 77) :=
  ⟨rfl, by decide, progress rfl rfl, by decide, progress rfl rfl⟩

/-- The whole allowance. -/
theorem witness_RefundCreditsCard :
    let c : Card := ⟨cardA, .active, [⟨keyZero, 2000, 0⟩, ⟨keySponsor, 1500, 0⟩, ⟨keyPaid, 10000, 0⟩], 0, 390⟩
    let s := serving (.refund cardA 12 6 5000) start
    s.InProgress ((Request.refund cardA 12 6 5000).frame 7#16) (.refund cardA 12 6 5000) ∧ s.PassesFront [cardA] ∧
    (s.merchant 12).state ≠ .unlisted ∧ s.lookup cardA = some (0, c) ∧ c.state ≠ .closing ∧ LotsFormed c.lots ∧
    (s.merchant 12).position.refunded + 5000 ≤ (s.merchant 12).position.redeemed + (s.merchant 12).allowance ∧
    lotsValue (expireLots s.today c.lots) + 5000 ≤ s.cfg.cardLimit ∧
    lotsFull (paidKey s.cfg.paidExpiryDays s.clock.day) (expireLots s.today c.lots) = false :=
  ⟨progress rfl rfl, passes (by decide), by decide, rfl, by decide, lotsFormed (by decide), by decide, by decide, by decide⟩

/-- A terminal with a basket and its member. -/
theorem witness_TerminalClearLeavesNone : basketed.clock.isSet = true ∧ basketed.TablesFormed ∧
    (serving (.terminalClear 12 6) basketed).InProgress ((Request.terminalClear 12 6).frame 7#16) (.terminalClear 12 6) ∧
    (basketed.clearedMembers 12 6).length = 1 ∧ (serving (.terminalClear 511 65535) basketed).InProgress
      ((Request.terminalClear 511 65535).frame 7#16) (.terminalClear 511 65535) :=
  ⟨rfl, formed (by decide), progress rfl rfl, by decide, progress rfl rfl⟩

theorem witness_MerchantRequestsWriteRecord : start.TablesFormed ∧
    (serving (.merchantSet 511 2 7 1000000 1) start).InProgress ((Request.merchantSet 511 2 7 1000000 1).frame 7#16)
      (.merchantSet 511 2 7 1000000 1) ∧
    (serving (.merchantRemove 12) start).InProgress ((Request.merchantRemove 12).frame 7#16) (.merchantRemove 12) ∧
    ((start.merchant 12).openHolds = 0 ∧ (start.merchant 12).position = Position.zero ∧ (start.merchant 12).sponsored = 0) ∧
    (serving (.merchantRemove 37) start).InProgress ((Request.merchantRemove 37).frame 7#16) (.merchantRemove 37) ∧
    (start.merchant 37).sponsored ≠ 0 :=
  ⟨formed (by decide), progress rfl rfl, progress rfl rfl, by decide, progress rfl rfl, by decide⟩

theorem witness_ReadsChangeNothing :
    (serving (.merchantRead 511) ready).InProgress ((Request.merchantRead 511).frame 7#16) (.merchantRead 511) ∧
    (serving (.closedRead 511) ready).InProgress ((Request.closedRead 511).frame 7#16) (.closedRead 511) ∧
    (walking 5 []).period.snapshot.state ≠ .empty ∧ ready.period.snapshot.state = .empty ∧
    (serving (.scheduleRead 7) ready).InProgress ((Request.scheduleRead 7).frame 7#16) (.scheduleRead 7) ∧
    (serving .periodStatus ready).InProgress (Request.periodStatus.frame 7#16) .periodStatus ∧
    (serving .configRead ready).InProgress (Request.configRead.frame 7#16) .configRead ∧
    ((Request.configRead.frame 7#16).request = some .configRead ∧
      (queued (Request.configRead.frame 7#16) State.reset).Next (Request.configRead.frame 7#16) [] ∧
      State.reset.store.state = .unformatted) :=
  ⟨progress rfl rfl, progress rfl rfl, by decide, rfl, progress rfl rfl, progress rfl rfl, progress rfl rfl, rfl, nextTaken rfl rfl, rfl⟩

theorem witness_ScheduleStageWritesStagedCopy : ready.TablesFormed ∧ 7 < 8 ∧ schedule2.inRange = true ∧
    (serving (.scheduleWrite 7 schedule2) ready).InProgress ((Request.scheduleWrite 7 schedule2).frame 7#16)
      (.scheduleWrite 7 schedule2) ∧
    (serving (.scheduleClear 7) ready).InProgress ((Request.scheduleClear 7).frame 7#16) (.scheduleClear 7) :=
  ⟨formed (by decide), by decide, by decide, progress rfl rfl, progress rfl rfl⟩

theorem witness_FeeArithmetic :
    let p : Position := { Position.zero with redeemed := 1500, feeUnits := 12000000, captureCount := 15 }
    schedule3.cap ≠ 0 ∧ (p.feeUnits + 5000) / 10000 + schedule3.fixedFee * p.captureCount ≤ p.redeemed ∧
    (p.feeUnits + 5000) / 10000 + schedule3.fixedFee * p.captureCount ≤ schedule3.cap := by decide

theorem witness_PeriodRequestsMoveFlag :
    (serving .periodCut ready).InProgress (Request.periodCut.frame 7#16) .periodCut ∧ ready.clock.isSet = true ∧
    (serving .periodRelease ready).InProgress (Request.periodRelease.frame 7#16) .periodRelease ∧
    ({ Snapshot.blank with state := .paid } : Snapshot).state = .paid ∧ ready.period.snapshot.state ≠ .paid ∧
    ready.cfg.cutLine = false ∧ State.cfg { ready with settings := { Settings.default with cutLine := true } } =
      { Settings.default with cutLine := true } :=
  ⟨progress rfl rfl, rfl, progress rfl rfl, rfl, by decide, rfl, rfl⟩

theorem witness_CutClosesOrDefers : (granted .periodController eve).arbiter.holder = some .periodController ∧
    (granted .periodController eve).TablesFormed ∧ eve.period.snapshot.state = .empty ∧
    (walking 5 []).period.snapshot.state ≠ .empty ∧ (walking 5 []).TablesFormed ∧
    (granted .periodController overdrawn).TablesFormed ∧ overdrawn.period.snapshot.state = .empty ∧
    overdrawn.cutSaturates = true :=
  ⟨rfl, formed (by decide), rfl, by decide, formed (by decide), formed (by decide), rfl, by decide⟩

theorem witness_FeesCancelInNets : eve.TablesFormed ∧ eve.cutSaturates = false := ⟨formed (by decide), by decide⟩

theorem witness_PayoutControlsAct :
    (serving .payoutStart ready).InProgress (Request.payoutStart.frame 7#16) .payoutStart ∧
    (serving .payoutAbort ready).InProgress (Request.payoutAbort.frame 7#16) .payoutAbort ∧
    ({ Snapshot.blank with state := .closed } : Snapshot).state = .closed ∧ ready.period.snapshot.state ≠ .closed ∧
    (walking 5 []).period.snapshot.state = .paying ∧ ready.period.snapshot.state ≠ .paying ∧
    ((Request.walkersHold.frame 7#16).request = some .walkersHold ∧
      (queued (Request.walkersHold.frame 7#16) ready).Next (Request.walkersHold.frame 7#16) []) ∧
    (Request.walkersResume.frame 7#16).request = some .walkersResume ∧
    (queued (Request.walkersResume.frame 7#16) ready).Next (Request.walkersResume.frame 7#16) [] :=
  ⟨progress rfl rfl, progress rfl rfl, rfl, by decide, rfl, by decide, ⟨rfl, nextTaken rfl rfl⟩, rfl, nextTaken rfl rfl⟩

/-- A listed index into the last free place, an index skipped, and the trailer. -/
theorem witness_WalkerAppendsRecords :
    let s := granted .payoutWalker (walking 5 (List.replicate 31 (.record (payoutRecord 1 0 ClosedPosition.blank))))
    let t := granted .payoutWalker (walking 511 [])
    let skips (c : ClosedPosition) : Prop := c = { ClosedPosition.blank with schedule := c.schedule, payoutRef := c.payoutRef }
    (s.payout.run.state = .walking ∧ s.arbiter.holder = some .payoutWalker ∧ s.payout.run.position < 512 ∧
      s.payout.queue.length < 32 ∧ ¬ skips (s.period.snapshot.closedAt 5)) ∧
    (t.payout.run.state = .walking ∧ t.payout.run.position < 512 ∧ skips (t.period.snapshot.closedAt 511)) ∧
    ((walking 512 []).payout.run.position = 512 ∧ (walking 512 []).payout.holdFlag = false ∧
      (walking 512 []).store.state = .ready ∧ (walking 512 []).store.parking = false) :=
  ⟨⟨rfl, rfl, by decide, by decide, by decide⟩, ⟨rfl, by decide, by decide⟩, rfl, rfl, rfl, rfl⟩

theorem witness_PayoutReadRemovesOldest :
    let e : PayoutEntry := .record (payoutRecord 1 0 ClosedPosition.blank)
    let s := queued (Request.payoutRead.frame 7#16) (walking 5 [e])
    let t := queued (Request.payoutRead.frame 7#16) (walking 512 [.trailer ⟨41, 1, 0, 1460, -1460, 0, 0⟩])
    (Request.payoutRead.frame 7#16).request = some .payoutRead ∧ s.Next (Request.payoutRead.frame 7#16) [] ∧
    (∀ e ∈ s.payout.queue.take 4, e.isTrailer = false) ∧ t.Next (Request.payoutRead.frame 7#16) [] ∧
    (∃ e ∈ t.payout.queue.take 4, e.isTrailer = true) :=
  ⟨rfl, nextTaken rfl rfl, by decide, nextTaken rfl rfl, by decide⟩

theorem witness_ClockEventsAct :
    State.reset.clock.isSet = false ∧ (ready.clock.isSet = true ∧ ready.clock.source = .external ∧ ready.clock.divider < 2) ∧
    (⟨1, 86399, true, .external, 2, false⟩ : Clock).divider = 2 ∧ (⟨1, 0, true, .fallback, 3, false⟩ : Clock).source = .fallback ∧
    (⟨1, 0, true, .internal, 3, false⟩ : Clock).source = .internal ∧
    (ready.clock.second < 86400 ∧ ready.clock.rollDue = false ∧ ready.hold.ticksDue = 0) ∧
    (granted .lapseWork ready).arbiter.holder ≠ none := by decide

theorem witness_DayRollStepsDay :
    let s : State := { ready with clock := ⟨65535, 14400, true, .external, 0, true⟩ }
    let p := s.period
    ready.clock.rollDue = false ∧ s.clock.rollDue = true ∧ s.store.state = .ready ∧ p.counterState = .running ∧
    p.counterValue ≤ 1 ∧ 1 < ({ p with counterValue := 2 } : Period).counterValue ∧
    ({ p with counterState := .stopped } : Period).counterState ≠ .running ∧ State.reset.store.state ≠ .ready := by decide

/-- The boundaries of day and second, the current day, and a day before it. -/
theorem witness_SetClockLoads :
    (serving (.setClock 65535 86399) ready).InProgress ((Request.setClock 65535 86399).frame 7#16) (.setClock 65535 86399) ∧
    (serving (.setClock 398 0) ready).InProgress ((Request.setClock 398 0).frame 7#16) (.setClock 398 0) ∧
    (serving (.setClock 397 0) ready).InProgress ((Request.setClock 397 0).frame 7#16) (.setClock 397 0) ∧
    (serving (.setClock 398 86400) ready).InProgress ((Request.setClock 398 86400).frame 7#16) (.setClock 398 86400) ∧
    ready.clock.rollDue = false ∧ ready.clock.day = 398 :=
  ⟨progress rfl rfl, progress rfl rfl, progress rfl rfl, progress rfl rfl, rfl, rfl⟩

theorem witness_RouteSetWritesEntry :
    (∀ p ∈ [none, some (4, 3), some (5, 0), some (0, 4)], ((Request.routeSet p).frame 7#16).request = some (.routeSet p) ∧
      (queued ((Request.routeSet p).frame 7#16) ready).mayTake = true) ∧
    eventSourceOf 4 = some .sweepDone ∧ destinationOf 3 = some .payoutStart ∧ eventSourceOf 5 = none ∧ destinationOf 4 = none := by
  decide

/-- An event of each destination, in the states the clauses of RouterDelivers name; PAYOUT_START with a CLOSED snapshot. -/
theorem witness_RouterDelivers :
    ready.routes.of .sweepDone = .none ∧ ready.routes.of .cutTaken = .attention ∧ ready.routes.of .dayRoll = .sweepStart ∧
    State.reset.routes.of .dayRoll = .sweepStart ∧ State.reset.store.state ≠ .ready ∧
    ready.store.state = .ready ∧ ready.clock.isSet = true ∧ ready.sweep.pass = .idle ∧ swept.sweep.pass = .sweeping ∧
    let paying : State := { ready with
        routes := { ready.routes with cutTaken := .payoutStart }
        period := { ready.period with snapshot := { Snapshot.blank with state := .closed } } }
    paying.routes.of .cutTaken = .payoutStart ∧ paying.store.state = .ready ∧ paying.period.snapshot.state = .closed := by
  decide

theorem witness_SweepStartStartsOrMarks :
    (serving .sweepStart ready).InProgress (Request.sweepStart.frame 7#16) .sweepStart ∧ ready.clock.isSet = true ∧
    ready.sweep.pass = .idle ∧ (serving .sweepStart swept).InProgress (Request.sweepStart.frame 7#16) .sweepStart ∧
    swept.sweep.pass = .sweeping ∧ State.reset.clock.isSet = false ∧
    (kindOf (Request.sweepStart.frame 7#16).kind = some .sweepStart ∧
      (⟨(Request.sweepStart.frame 7#16).kind, 7#16, [0#8]⟩ : Frame).request = none) ∧
    (queued (Request.sweepStart.frame 7#16) State.reset).Next (Request.sweepStart.frame 7#16) [] ∧
    (Request.sweepStart.frame 7#16).request = some .sweepStart ∧ State.reset.store.state = .unformatted :=
  ⟨progress rfl rfl, rfl, rfl, progress rfl rfl, rfl, rfl, ⟨rfl, rfl⟩, nextTaken rfl rfl, rfl, rfl⟩

theorem witness_SweepUnitVisitsBlock : (granted .expirySweep swept).TablesFormed ∧
    (granted .expirySweep swept).arbiter.holder = some .expirySweep ∧ swept.sweep.pass = .sweeping ∧ 1 ≤ swept.sweep.block ∧
    swept.sweepVisits ≠ [] ∧ swept.routes.of .sweepDone = .none := ⟨formed (by decide), rfl, rfl, by decide, by decide, rfl⟩

theorem witness_StatusReportsAndClears :
    (queued (Request.status.frame 7#16) ready).Next (Request.status.frame 7#16) [] ∧
    (Request.status.frame 7#16).request = some .status ∧
    (queued ((Request.statusClear 65535).frame 7#16) ready).Next ((Request.statusClear 65535).frame 7#16) [] ∧
    ((Request.statusClear 65535).frame 7#16).request = some (.statusClear 65535) ∧ ready.store.state = .ready ∧
    ready.attentionLow = false ∧ (ready.raise .storeReady).attentionLow = true :=
  ⟨nextTaken rfl rfl, rfl, nextTaken rfl rfl, rfl, rfl, by decide, by decide⟩

theorem witness_ConfigClampsSettings :
    let c : ConfigFields := ⟨some 0, some 4294967295, some 3651, some 1, some 32, some 1, some 86400, some 1, some 1, some 1, some 0,
      some 65535⟩
    let d : ConfigFields := ⟨none, none, none, none, none, some 2, none, none, none, none, none, none⟩
    (serving (.config c) ready).InProgress ((Request.config c).frame 7#16) (.config c) ∧ c.named = true ∧
    (serving (.config d) ready).InProgress ((Request.config d).frame 7#16) (.config d) ∧ d.named = false :=
  ⟨progress rfl rfl, rfl, progress rfl rfl, rfl⟩

theorem witness_FormatWritesStore :
    let s := serving .format State.reset
    s.engine.current = some (Request.format.frame 7#16) ∧ (Request.format.frame 7#16).request = some .format ∧
    s.arbiter.holder = some .requestEngine ∧ s.store.state = .unformatted ∧ s.store.parking = false ∧
    ({ s.store with parking := true } : Store).parking = true := by decide

/-- A CLOSING card of value 0 in slot 7, and one with value in slot 8; each step of the mount. -/
theorem witness_MountCompletesReady :
    let s (m : MountStage) : State := { mounting m with
      cards := ⟨[(7, ⟨cardA, .closing, [], 1, 800⟩), (8, ⟨cardB, .closing, [⟨keyPaid, 3000, 500⟩], 2, 800⟩)], [], 0, 0⟩ }
    (∀ m, (s m).store.state = .mounting ∧ (s m).store.mount = m ∧ (s m).pending = []) ∧
    (s .settings).TablesFormed ∧ (s (.cards 8)).TablesFormed ∧ (s .merchants).TablesFormed ∧
    (∀ e ∈ (s .settings).cards.slots, ∀ k ∈ (s .settings).cards.slots, e.2.number = k.2.number → e = k) ∧
    ((s (.cards 8)).cardAt 8).isSome = true ∧ (s (.cards 8)).nextOccupied 8 = some 8 ∧ (s (.cards 9)).nextOccupied 9 = none :=
  ⟨fun _ => ⟨rfl, rfl, rfl⟩, formed (by decide), formed (by decide), formed (by decide), by decide⟩

theorem witness_PowerFailParks :
    (ready.store.state ≠ .parked ∧ ready.store.parking = false ∧ ready.arbiter.holder = none) ∧
    (granted .payoutWalker ready).arbiter.holder ≠ none ∧ ({ ready.store with state := .parked } : Store).state = .parked ∧
    ({ ready.store with parking := true } : Store).parking = true := by decide

end Sys2Proof.Tests
end

namespace Sys2Proof.Machine

/-! ## The rows of requests

What every row that serves a request is: the Request Engine's service of a frame, by the work of the row's request. -/

/-- A row that serves a request is the service of a frame; its unit does the request's work on the row's own requests and refuses
every other. But for the kinds of several rows it takes every frame of its kind. -/
theorem Request.exec_row (r : Request) (s : State) :
    ∃ (takes : Frame → Bool) (unit : Request → State → Reply × State),
      exec r.row s = .next (s.serve takes (wellFormedOr unit)) ∧ (∀ u, unit r u = r.work u) ∧
      (∀ q u, unit q u = q.work u ∨ unit q u = (refuse .badRequest, u)) ∧
      (r.kind ≠ .watchSet → r.kind ≠ .scheduleStage → takes = Frame.isKind r.kind) := by
  cases r
  case watchWrite | watchClear | watchList =>
    refine ⟨_, _, rfl, fun _ => rfl, fun q u => ?_, fun h => absurd rfl h⟩
    split
    · exact .inl rfl
    · exact .inr rfl
  case scheduleWrite | scheduleClear =>
    refine ⟨_, _, rfl, fun _ => rfl, fun q u => ?_, fun _ h => absurd rfl h⟩
    split
    · exact .inl rfl
    · exact .inr rfl
  all_goals
    refine ⟨_, _, rfl, fun _ => rfl, fun q u => ?_, fun _ _ => rfl⟩
    split
    · exact .inl rfl
    · exact .inr rfl

/-- The request in progress is completed by its row, where its kind has one row. -/
theorem State.exec_row_held {s : State} {f : Frame} {r : Request} (hc : s.engine.current = some f)
    (hh : s.arbiter.holder = some .requestEngine) (hr : f.request = some r) (hw : r.kind ≠ .watchSet)
    (hs : r.kind ≠ .scheduleStage) :
    exec r.row s = .next ((r.work s).2.completeRequest f (r.work s).1) := by
  obtain ⟨takes, unit, he, hu, -, ht⟩ := r.exec_row s
  rw [he, ht hw hs, s.serve_inProgress _ _ hc hh (Frame.isKind_of_request hr), wellFormedOr_some _ _ hr, hu]

/-- The kinds of card-naming requests have one row each. -/
theorem Request.kind_of_cardNumbers {r : Request} (h : r.cardNumbers ≠ []) :
    r.kind ≠ .watchSet ∧ r.kind ≠ .scheduleStage := by
  cases r <;> first | exact absurd rfl h | exact ⟨nofun, nofun⟩

/-- A card-naming request in progress is completed by its row. -/
theorem State.InProgress.exec_card {s : State} {f : Frame} {r : Request} (h : s.InProgress f r) (hn : r.cardNumbers ≠ []) :
    exec r.row s = .next ((r.work s).2.completeRequest f (r.work s).1) :=
  s.exec_row_held h.current h.holds h.carries (Request.kind_of_cardNumbers hn).1 (Request.kind_of_cardNumbers hn).2

/-- A malformed request in progress is refused by the row of its kind, where the kind has one row. -/
theorem State.exec_row_malformed {s : State} {f : Frame} {r : Request} (hc : s.engine.current = some f)
    (hh : s.arbiter.holder = some .requestEngine) (hk : kindOf f.kind = some r.kind) (hw : r.kind ≠ .watchSet)
    (hs : r.kind ≠ .scheduleStage) (hf : f.request = none) :
    exec r.row s = .next (s.completeRequest f (refuse .badRequest)) := by
  obtain ⟨takes, unit, he, -, -, ht⟩ := r.exec_row s
  have hi : f.isKind r.kind = true := by simp [Frame.isKind, hk]
  rw [he, ht hw hs, s.serve_inProgress _ _ hc hh hi, wellFormedOr_none _ _ hf]

/-! ## Card-naming requests -/

/-- What `cardFront` can do, once the store is READY: each check of R25 in its order, and then the request's own work. -/
theorem cardFront_cases (ns : List Nat) (rest : State → Reply × State) {s : State} (h : s.store.state = .ready) :
    (s.clock.isSet = false ∧ cardFront ns rest s = (refuse .clockUnset, s)) ∨
    (s.clock.isSet = true ∧ (∃ n ∈ ns, validNumber n = false) ∧ cardFront ns rest s = (refuse .badNumber, s)) ∨
    (s.clock.isSet = true ∧ (∀ n ∈ ns, validNumber n = true) ∧ (∃ n ∈ ns, s.declined n = true) ∧
      cardFront ns rest s = (refuse .watched, ns.foldl State.compareWatch s)) ∨
    (s.PassesFront ns ∧ cardFront ns rest s = rest (ns.foldl State.compareWatch s)) := by
  by_cases hset : s.clock.isSet = true
  · by_cases hv : ∀ n ∈ ns, validNumber n = true
    · have hv' : ns.all validNumber = true := List.all_eq_true.mpr hv
      by_cases hd : ∃ n ∈ ns, s.declined n = true
      · refine .inr (.inr (.inl ⟨hset, hv, hd, ?_⟩))
        simp only [cardFront, whenSet_set _ h hset, hv', List.any_eq_true.mpr hd, if_true]
      · have hp : s.PassesFront ns := ⟨h, hset, hv, fun n hn => by
          simpa using fun hc => hd ⟨n, hn, hc⟩⟩
        exact .inr (.inr (.inr ⟨hp, cardFront_passed rest hp⟩))
    · obtain ⟨n, hn, hbad⟩ : ∃ n ∈ ns, validNumber n = false := by simpa using hv
      have hv' : ns.all validNumber = false := List.all_eq_false.mpr ⟨n, hn, by simp [hbad]⟩
      refine .inr (.inl ⟨hset, ⟨n, hn, hbad⟩, ?_⟩)
      simp only [cardFront, whenSet_set _ h hset, hv']
      rfl
  · have hset : s.clock.isSet = false := by simpa using hset
    exact .inl ⟨hset, whenSet_unset _ h hset⟩

end Sys2Proof.Machine

namespace Sys2Proof.Machine

/-! ## Lots: credits (R6 to R8) -/

/-- Spend order, read off R7. -/
theorem sortsBefore_iff (j k : LotKey) : sortsBefore j k = true ↔
    (j.kind = .promo ∧ k.kind = .paid) ∨
    (j.kind = k.kind ∧ ∃ d, j.expiry = some d ∧ ∀ e, k.expiry = some e → d < e) := by
  obtain ⟨kj, sj, ej⟩ := j
  obtain ⟨kk, sk, ek⟩ := k
  cases kj <;> cases kk <;> cases ej <;> cases ek <;> simp [sortsBefore]

theorem hasKey_iff {key : LotKey} {lots : List Lot} : hasKey key lots = true ↔ ∃ l ∈ lots, l.key = key := by
  simp [hasKey]

theorem hasKey_eq_false_iff {key : LotKey} {lots : List Lot} : hasKey key lots = false ↔ ∀ l ∈ lots, l.key ≠ key := by
  simp [hasKey]

/-- A credit of `amount` cents to the lot of a key, in its place. -/
abbrev mergeCredit (key : LotKey) (amount : Nat) (lots : List Lot) : List Lot :=
  lots.map (fun l => if l.key = key then { l with available := l.available + amount } else l)

theorem creditLots_merge {key : LotKey} {lots : List Lot} (amount : Nat) (h : hasKey key lots = true) :
    creditLots key amount lots = mergeCredit key amount lots := by
  simp [creditLots, h]

theorem creditLots_insert {key : LotKey} {lots : List Lot} (amount : Nat) (h : hasKey key lots = false) :
    creditLots key amount lots = insertLot ⟨key, amount, 0⟩ lots := by
  simp [creditLots, h]

theorem mergeCredit_absent {key : LotKey} {lots : List Lot} (amount : Nat) (h : ∀ l ∈ lots, l.key ≠ key) :
    mergeCredit key amount lots = lots :=
  (List.map_congr_left fun l hl => if_neg (h l hl)).trans (List.map_id lots)

theorem mergeCredit_keys (key : LotKey) (amount : Nat) (lots : List Lot) :
    (mergeCredit key amount lots).map (·.key) = lots.map (·.key) := by
  rw [List.map_map]
  refine List.map_congr_left fun l _ => ?_
  simp only [Function.comp]
  split <;> rfl

/-- A sum over the lots that counts the available rises by the amount merged. -/
theorem mergeCredit_sum {key : LotKey} {amount : Nat} {lots : List Lot} (hd : (lots.map (·.key)).Nodup)
    (hk : ∃ l ∈ lots, l.key = key) (g : Lot → Nat)
    (hg : ∀ l : Lot, g { l with available := l.available + amount } = g l + amount) :
    ((mergeCredit key amount lots).map g).sum = (lots.map g).sum + amount := by
  induction lots with
  | nil => simp at hk
  | cons l rest ih =>
    obtain ⟨hl, hr⟩ := List.nodup_cons.mp hd
    by_cases e : l.key = key
    · have hrest : ∀ x ∈ rest, x.key ≠ key := fun x hx hxk => hl (List.mem_map.mpr ⟨x, hx, hxk.trans e.symm⟩)
      have := mergeCredit_absent amount hrest
      have := hg l
      simp only [mergeCredit, List.map_cons, if_pos e, List.sum_cons] at *
      rw [‹List.map _ rest = rest›]
      omega
    · have hrest : ∃ x ∈ rest, x.key = key := by simpa [e] using hk
      have := ih hr hrest
      simp only [mergeCredit, List.map_cons, e, if_false, List.sum_cons] at this ⊢
      omega

/-- A sum over the lots that counts the available rises by the amount credited. -/
theorem creditLots_sum {lots : List Lot} (key : LotKey) (amount : Nat) (hd : (lots.map (·.key)).Nodup) (g : Lot → Nat)
    (hg : ∀ l : Lot, g { l with available := l.available + amount } = g l + amount) (hn : g ⟨key, amount, 0⟩ = amount) :
    ((creditLots key amount lots).map g).sum = (lots.map g).sum + amount := by
  by_cases hk : hasKey key lots = true
  · rw [creditLots_merge amount hk, mergeCredit_sum hd (hasKey_iff.mp hk) g hg]
  · rw [creditLots_insert amount (by simpa using hk), ((insertLot_perm _ lots).map g).sum_eq, List.map_cons,
      List.sum_cons, hn, Nat.add_comm]

theorem creditLots_value {lots : List Lot} (key : LotKey) (amount : Nat) (hd : (lots.map (·.key)).Nodup) :
    lotsValue (creditLots key amount lots) = lotsValue lots + amount :=
  creditLots_sum key amount hd _ (fun l => by dsimp only; omega) rfl

theorem creditLots_available {lots : List Lot} (key : LotKey) (amount : Nat) (hd : (lots.map (·.key)).Nodup) :
    lotsAvailable (creditLots key amount lots) = lotsAvailable lots + amount :=
  creditLots_sum key amount hd _ (fun _ => rfl) rfl

/-- With distinct keys, the available of a key is that of the one lot that has it. -/
theorem availableOf_mem {lots : List Lot} (hd : (lots.map (·.key)).Nodup) {l : Lot} (h : l ∈ lots) :
    availableOf l.key lots = l.available := by
  induction lots with
  | nil => simp at h
  | cons x rest ih =>
    obtain ⟨hx, hr⟩ := List.nodup_cons.mp hd
    rcases List.mem_cons.mp h with rfl | h
    · simp [availableOf]
    · have hne : x.key ≠ l.key := fun e => hx (List.mem_map.mpr ⟨l, h, e.symm⟩)
      simpa [availableOf, hne] using ih hr h

theorem availableOf_absent {key : LotKey} {lots : List Lot} (h : ∀ l ∈ lots, l.key ≠ key) : availableOf key lots = 0 := by
  have : lots.find? (fun l => l.key == key) = none := by simpa using h
  simp [availableOf, this]

/-- A credit leaves every lot of another key, and adds none. -/
theorem mem_creditLots_of_ne {key : LotKey} {amount : Nat} {lots : List Lot} {l : Lot} (h : l.key ≠ key) :
    l ∈ creditLots key amount lots ↔ l ∈ lots := by
  by_cases hk : hasKey key lots = true
  · rw [creditLots_merge amount hk, List.mem_map]
    constructor
    · rintro ⟨x, hx, rfl⟩
      split at h <;> simp_all
    · exact fun hl => ⟨l, hl, if_neg h⟩
  · rw [creditLots_insert amount (by simpa using hk), (insertLot_perm _ lots).mem_iff, List.mem_cons]
    exact ⟨fun hl => hl.resolve_left (fun e => h (e ▸ rfl)), .inr⟩

theorem creditLots_length (key : LotKey) (amount : Nat) (lots : List Lot) :
    (creditLots key amount lots).length = (if hasKey key lots then lots.length else lots.length + 1) := by
  split
  · next h => simp [creditLots_merge amount h]
  · next h => rw [creditLots_insert amount (by simpa using h), (insertLot_perm _ lots).length_eq]; rfl

/-- The keys of the lots after a credit: those before, and the key credited when it is a new one. -/
theorem creditLots_keys (key : LotKey) (amount : Nat) (lots : List Lot) :
    ((creditLots key amount lots).map (·.key)).Perm
      (if hasKey key lots then lots.map (·.key) else key :: lots.map (·.key)) := by
  split
  · next h => rw [creditLots_merge amount h, mergeCredit_keys]
  · next h => rw [creditLots_insert amount (by simpa using h)]; exact (insertLot_perm _ lots).map _

/-- A credit with room for its lot keeps the lots formed. -/
theorem creditLots_formed {key : LotKey} {amount : Nat} {lots : List Lot} (h : LotsFormed lots) (ha : 0 < amount)
    (hf : lotsFull key lots = false) : LotsFormed (creditLots key amount lots) := by
  obtain ⟨few, distinct, ordered, valued⟩ := h
  by_cases hk : hasKey key lots = true
  · refine ⟨by rw [creditLots_length, if_pos hk]; exact few, ?_, ?_, ?_⟩
    · exact (creditLots_keys key amount lots).nodup_iff.mpr (by rw [if_pos hk]; exact distinct)
    · have hp : (lots.map (·.key)).Pairwise (fun a b => sortsBefore b a = false) := List.pairwise_map.mpr ordered
      rw [← mergeCredit_keys key amount lots] at hp
      rw [creditLots_merge amount hk]
      exact List.pairwise_map.mp hp
    · rw [creditLots_merge amount hk]
      intro l hl
      obtain ⟨x, hx, rfl⟩ := List.mem_map.mp hl
      have := valued x hx
      split
      · dsimp only; omega
      · exact this
  · have hroom : lots.length < Config.lotsPerCard := by simpa [lotsFull, hk] using hf
    have hk : hasKey key lots = false := by simpa using hk
    refine ⟨by rw [creditLots_length, hk]; exact hroom, ?_, ?_, ?_⟩
    · rw [(creditLots_keys key amount lots).nodup_iff, hk]
      exact List.nodup_cons.mpr ⟨by simpa using hasKey_eq_false_iff.mp hk, distinct⟩
    · rw [creditLots_insert amount hk]
      exact insertLot_ordered _ _ ordered
    · rw [creditLots_insert amount hk]
      intro l hl
      rcases List.mem_cons.mp ((insertLot_perm _ lots).mem_iff.mp hl) with rfl | hl
      · exact Nat.lt_add_right 0 ha
      · exact valued l hl

theorem availableOf_credit {key : LotKey} {amount : Nat} {lots : List Lot} (hd : (lots.map (·.key)).Nodup) :
    availableOf key (creditLots key amount lots) = availableOf key lots + amount := by
  by_cases hk : hasKey key lots = true
  · obtain ⟨l, hl, rfl⟩ := hasKey_iff.mp hk
    have hm : { l with available := l.available + amount } ∈ creditLots l.key amount lots := by
      rw [creditLots_merge amount hk]
      exact List.mem_map.mpr ⟨l, hl, if_pos rfl⟩
    have hn := (creditLots_keys l.key amount lots).nodup_iff.mpr (by rw [if_pos hk]; exact hd)
    rw [availableOf_mem hd hl]
    exact availableOf_mem hn hm
  · have hk : hasKey key lots = false := by simpa using hk
    have habs := hasKey_eq_false_iff.mp hk
    have hn := (creditLots_keys key amount lots).nodup_iff.mpr (by
      rw [hk]; exact List.nodup_cons.mpr ⟨by simpa using habs, hd⟩)
    have hm : (⟨key, amount, 0⟩ : Lot) ∈ creditLots key amount lots := by
      rw [creditLots_insert amount hk]
      exact (insertLot_perm _ lots).mem_iff.mpr List.mem_cons_self
    rw [availableOf_absent habs, availableOf_mem hn hm, Nat.zero_add]

/-- A new lot stands after the lots that the spend order does not put after it, and before the others (R7). -/
theorem insertLot_split (new : Lot) {lots : List Lot} (h : lots.Pairwise (fun a b => sortsBefore b.key a.key = false)) :
    ∃ earlier later, lots = earlier ++ later ∧ insertLot new lots = earlier ++ new :: later ∧
      (∀ l ∈ earlier, sortsBefore new.key l.key = false) ∧ (∀ l ∈ later, sortsBefore new.key l.key = true) := by
  induction lots with
  | nil => exact ⟨[], [], rfl, rfl, by simp, by simp⟩
  | cons l rest ih =>
    obtain ⟨hl, hr⟩ := List.pairwise_cons.mp h
    by_cases hs : sortsBefore new.key l.key = true
    · refine ⟨[], l :: rest, rfl, by simp [insertLot, hs], by simp, fun x hx => ?_⟩
      rcases List.mem_cons.mp hx with rfl | hx
      · exact hs
      · by_contra hc
        have := sortsBefore_chain (hl x hx) (by simpa using hc)
        simp [hs] at this
    · obtain ⟨earlier, later, hsplit, hins, he, hla⟩ := ih hr
      refine ⟨l :: earlier, later, by rw [hsplit]; rfl, by simp [insertLot, hs, hins], fun x hx => ?_, hla⟩
      rcases List.mem_cons.mp hx with rfl | hx
      · simpa using hs
      · exact he x hx

/-- Settles O20: the lot of the key keeps its place, and a new lot is placed by the spend order. -/
theorem creditMergesOrInserts : Obligations.CreditMergesOrInserts := by
  intro key a lots h ha hf
  refine ⟨creditLots_formed h ha hf, creditLots_value key a h.distinct, creditLots_available key a h.distinct,
    availableOf_credit h.distinct, fun l hl hne => (mem_creditLots_of_ne hne).mpr hl,
    fun l hl hne => (mem_creditLots_of_ne hne).mp hl, creditLots_length key a lots,
    fun hk => creditLots_merge a (hasKey_iff.mpr hk), fun hk => ?_, sortsBefore_iff⟩
  rw [creditLots_insert a (hasKey_eq_false_iff.mpr hk)]
  exact insertLot_split ⟨key, a, 0⟩ h.ordered

/-! ## Lots: reservations (R10, R55) -/

theorem lotsAvailable_cons (l : Lot) (rest : List Lot) : lotsAvailable (l :: rest) = l.available + lotsAvailable rest := rfl
theorem lotsHeld_cons (l : Lot) (rest : List Lot) : lotsHeld (l :: rest) = l.held + lotsHeld rest := rfl

/-- The parts drawn from a first lot and the others: no part of a lot that gives nothing. -/
theorem partsOf_cons (a : Nat) (l : Lot) (rest : List Lot) :
    partsOf a (l :: rest) = (if min a l.available = 0 then [] else [⟨l.key, min a l.available⟩]) ++
      partsOf (a - min a l.available) rest := by
  simp only [partsOf]
  split <;> rfl

/-- The parts of a reservation cover its amount, as far as the available goes. -/
theorem partsOf_sum (a : Nat) (lots : List Lot) : ((partsOf a lots).map (·.cents)).sum = min a (lotsAvailable lots) := by
  induction lots generalizing a with
  | nil => simp [partsOf, lotsAvailable]
  | cons l rest ih =>
    rw [partsOf_cons, List.map_append, List.sum_append, ih, lotsAvailable_cons]
    split
    · simp only [List.map_nil, List.sum_nil]; omega
    · simp only [List.map_cons, List.map_nil, List.sum_cons, List.sum_nil]; omega

theorem partsOf_pos {a : Nat} {lots : List Lot} : ∀ p ∈ partsOf a lots, 0 < p.cents := by
  induction lots generalizing a with
  | nil => simp [partsOf]
  | cons l rest ih =>
    intro p hp
    rw [partsOf_cons, List.mem_append] at hp
    rcases hp with hp | hp
    · split at hp
      · simp at hp
      · next h => obtain rfl := List.mem_singleton.mp hp; exact Nat.pos_of_ne_zero h
    · exact ih p hp

theorem partsOf_length (a : Nat) (lots : List Lot) : (partsOf a lots).length ≤ lots.length := by
  induction lots generalizing a with
  | nil => simp [partsOf]
  | cons l rest ih =>
    have := ih (a - min a l.available)
    rw [partsOf_cons, List.length_append, List.length_cons]
    split <;> simp only [List.length_nil, List.length_cons] <;> omega

theorem partsOf_zero (lots : List Lot) : partsOf 0 lots = [] :=
  List.eq_nil_of_map_eq_nil (f := Part.cents) (by
    have hz := partsOf_sum 0 lots
    have hp := @partsOf_pos 0 lots
    rw [Nat.zero_min] at hz
    cases hq : partsOf 0 lots with
    | nil => rfl
    | cons p rest =>
      have := hp p (by simp [hq])
      simp only [hq, List.map_cons, List.sum_cons] at hz
      omega)

@[simp] theorem reserveLots_keys (a : Nat) (lots : List Lot) : (reserveLots a lots).map (·.key) = lots.map (·.key) := by
  induction lots generalizing a with
  | nil => rfl
  | cons l rest ih => simp [reserveLots, ih]

theorem reserveLots_values (a : Nat) (lots : List Lot) :
    (reserveLots a lots).map (fun l => l.available + l.held) = lots.map (fun l => l.available + l.held) := by
  induction lots generalizing a with
  | nil => rfl
  | cons l rest ih =>
    simp only [reserveLots, List.map_cons, ih]
    congr 1
    omega

theorem reserveLots_available (a : Nat) (lots : List Lot) :
    lotsAvailable (reserveLots a lots) = lotsAvailable lots - a := by
  induction lots generalizing a with
  | nil => simp [reserveLots, lotsAvailable]
  | cons l rest ih =>
    rw [reserveLots, lotsAvailable_cons, ih, lotsAvailable_cons]
    dsimp only
    omega

theorem reserveLots_held {a : Nat} {lots : List Lot} (h : a ≤ lotsAvailable lots) :
    lotsHeld (reserveLots a lots) = lotsHeld lots + a := by
  induction lots generalizing a with
  | nil => simpa [lotsAvailable, reserveLots, lotsHeld, eq_comm] using h
  | cons l rest ih =>
    rw [lotsAvailable_cons] at h
    rw [reserveLots, lotsHeld_cons, ih (by omega), lotsHeld_cons]
    dsimp only
    omega

theorem reserveLots_zero (lots : List Lot) : reserveLots 0 lots = lots := by
  induction lots with
  | nil => rfl
  | cons l rest ih => simp [reserveLots, ih]

theorem reserveLots_length (a : Nat) (lots : List Lot) : (reserveLots a lots).length = lots.length := by
  induction lots generalizing a with
  | nil => rfl
  | cons l rest ih => simp [reserveLots, ih]

/-- A reservation works through the lots in order: what the first lots do not cover falls on the others. -/
theorem reserveLots_append (a : Nat) (before after : List Lot) :
    reserveLots a (before ++ after) = reserveLots a before ++ reserveLots (a - lotsAvailable before) after := by
  induction before generalizing a with
  | nil => simp [reserveLots, lotsAvailable]
  | cons l rest ih =>
    simp only [List.cons_append, reserveLots, ih, lotsAvailable_cons]
    congr 3
    omega

theorem partsOf_append (a : Nat) (before after : List Lot) :
    partsOf a (before ++ after) = partsOf a before ++ partsOf (a - lotsAvailable before) after := by
  induction before generalizing a with
  | nil => simp [partsOf, lotsAvailable]
  | cons l rest ih =>
    rw [List.cons_append, partsOf_cons, partsOf_cons, ih, lotsAvailable_cons, List.append_assoc]
    congr 3
    omega

/-- Lots from which more is asked than they have are left with nothing available. -/
theorem reserveLots_drained {a : Nat} {lots : List Lot} (h : lotsAvailable lots ≤ a) :
    ∀ l ∈ reserveLots a lots, l.available = 0 := by
  have hz : lotsAvailable (reserveLots a lots) = 0 := by rw [reserveLots_available]; omega
  exact fun l hl => (List.sum_eq_zero_iff.mp hz) _ (List.mem_map_of_mem hl)

/-! ## Serial numbers (R50, R76) -/

/-- The serial number `k` places after a number. -/
def serialAfter : Nat → Nat → Nat
  | 0, n => n
  | k + 1, n => serialAfter k (bumpSerial n)

/-- Starting anywhere, the counter meets no number twice in less than one round. -/
theorem serialAfter_ne {k : Nat} {n : Nat} (h0 : 0 < k) (hk : k < Config.serialMax) : serialAfter k n ≠ n := by
  have step : ∀ (k m : Nat), m ≤ Config.serialMax → serialAfter k m = m + k ∨
      (m + k > Config.serialMax ∧ (k + m < 2 * Config.serialMax + 1 → serialAfter k m = m + k - Config.serialMax)) := by
    intro k
    induction k with
    | zero => exact fun m _ => .inl rfl
    | succ k ih =>
      intro m hm
      by_cases hb : Config.serialMax ≤ m
      · have e : m = Config.serialMax := Nat.le_antisymm hm hb
        subst e
        refine .inr ⟨by omega, fun hlt => ?_⟩
        have : serialAfter (k + 1) Config.serialMax = serialAfter k 1 := by simp [serialAfter, bumpSerial]
        rw [this]
        rcases ih 1 (by decide) with h | ⟨h, -⟩
        · rw [h]; omega
        · omega
      · have : serialAfter (k + 1) m = serialAfter k (m + 1) := by simp [serialAfter, bumpSerial, hb]
        rw [this]
        rcases ih (m + 1) (by omega) with h | ⟨h, h'⟩
        · exact .inl (by rw [h]; omega)
        · exact .inr ⟨by omega, fun hlt => by rw [h' (by omega)]; omega⟩
  by_cases hn : n ≤ Config.serialMax
  · rcases step k n hn with h | ⟨h, h'⟩
    · omega
    · have := h' (by omega)
      omega
  · obtain ⟨k, rfl⟩ : ∃ j, k = j + 1 := ⟨k - 1, by omega⟩
    have : serialAfter (k + 1) n = serialAfter k 1 := by
      simp only [serialAfter, bumpSerial]
      rw [if_pos (by omega)]
    rw [this]
    rcases step k 1 (by decide) with h | ⟨h, -⟩ <;> omega


theorem serialAfter_add (i j n : Nat) : serialAfter (i + j) n = serialAfter j (serialAfter i n) := by
  induction i generalizing n with
  | zero => simp [serialAfter]
  | succ i ih => rw [Nat.add_right_comm]; exact ih _

/-- A number that the search ends on, and that is carried, was reached over carried numbers alone. -/
theorem freeSerial_carried {carried : List Nat} {k n : Nat} (h : freeSerial carried k n ∈ carried) :
    ∀ j ≤ k, serialAfter j n ∈ carried := by
  induction k generalizing n with
  | zero => exact fun j hj => by obtain rfl := Nat.le_zero.mp hj; exact h
  | succ k ih =>
    by_cases hc : n ∈ carried
    · rw [freeSerial, if_pos (by simpa using hc)] at h
      rintro (_ | j) hj
      · exact hc
      · exact ih h j (by omega)
    · rw [freeSerial, if_neg (by simpa using hc)] at h
      exact absurd h hc

/-- The search meets a number that is not carried, passing over as many as are carried at most. -/
theorem freeSerial_fresh (carried : List Nat) (n : Nat) (h : carried.length < Config.serialMax) :
    freeSerial carried carried.length n ∉ carried := by
  intro hc
  have hall := freeSerial_carried hc
  have hsub : (List.range (carried.length + 1)).map (serialAfter · n) ⊆ carried := fun x hx => by
    obtain ⟨j, hj, rfl⟩ := List.mem_map.mp hx
    exact hall j (Nat.le_of_lt_succ (List.mem_range.mp hj))
  have hmeet : ∀ i j, i < j → j ≤ carried.length → serialAfter i n ≠ serialAfter j n := fun i j hij hj e => by
    obtain ⟨d, rfl⟩ : ∃ d, j = i + d := ⟨j - i, by omega⟩
    rw [serialAfter_add] at e
    exact serialAfter_ne (by omega) (by omega) e.symm
  have hnd : ((List.range (carried.length + 1)).map (serialAfter · n)).Nodup := by
    refine List.Nodup.map_on (fun i hi j hj e => ?_) List.nodup_range
    rcases Nat.lt_trichotomy i j with hij | hij | hij
    · exact absurd e (hmeet i j hij (Nat.le_of_lt_succ (List.mem_range.mp hj)))
    · exact hij
    · exact absurd e.symm (hmeet j i hij (Nat.le_of_lt_succ (List.mem_range.mp hi)))
  have := (hnd.subperm hsub).length_le
  simp at this

theorem bumpSerial_range {n : Nat} : 1 ≤ bumpSerial n ∧ bumpSerial n ≤ Config.serialMax := by
  unfold bumpSerial
  split
  · exact ⟨Nat.le_refl 1, by decide⟩
  · omega

theorem freeSerial_range (carried : List Nat) {k n : Nat} (h : 1 ≤ n ∧ n ≤ Config.serialMax) :
    1 ≤ freeSerial carried k n ∧ freeSerial carried k n ≤ Config.serialMax := by
  induction k generalizing n with
  | zero => exact h
  | succ k ih =>
    rw [freeSerial]
    split
    · exact ih bumpSerial_range
    · exact h

/-- The next hold's number is carried by no hold. -/
theorem HoldTable.nextHold_fresh {t : HoldTable} (h : t.holds.length ≤ Config.holdEntries) :
    t.nextHold ∉ t.holds.map (·.number) := by
  have := freeSerial_fresh (t.holds.map (·.number)) t.holdSerial
    (by rw [List.length_map]; exact Nat.lt_of_le_of_lt h (by decide))
  rwa [List.length_map] at this

/-- Settles O27: the parts cover the amount lot by lot, in the lots' order, and the number is met by the search. -/
theorem reservationCoversAmount : Obligations.ReservationCoversAmount := by
  refine ⟨fun a lots h => ⟨?_, partsOf_pos, partsOf_length a lots, reserveLots_keys a lots, reserveLots_values a lots,
    reserveLots_available a lots, reserveLots_held h⟩, fun a before l after => ⟨fun h => ?_, fun h => ?_⟩,
    fun t hl h1 h2 => ?_⟩
  · rw [partsOf_sum, Nat.min_eq_left h]
  · rw [reserveLots_append, partsOf_append, Nat.sub_eq_zero_of_le h, reserveLots_zero, partsOf_zero, List.append_nil]
    exact ⟨rfl, rfl⟩
  · have hlen := reserveLots_length a before
    refine ⟨?_, ?_, fun hp => ?_⟩
    · rw [reserveLots_append, List.take_append_of_le_length (by omega), ← hlen, List.take_length]
      exact reserveLots_drained (Nat.le_of_lt h)
    · rw [reserveLots_append, List.getElem?_append_right (by omega), hlen, Nat.sub_self]
      rfl
    · have hpos : 0 < a - lotsAvailable before := Nat.sub_pos_of_lt h
      have hrest : a - lotsAvailable before - min (a - lotsAvailable before) l.available =
          a - lotsAvailable before - l.available := by omega
      rw [partsOf_append, partsOf_cons, if_neg (by omega), hrest]
      rfl
  · have hr := freeSerial_range (t.holds.map (·.number)) (k := t.holds.length) ⟨h1, h2⟩
    exact ⟨fun h hh e => HoldTable.nextHold_fresh hl (List.mem_map.mpr ⟨h, hh, e⟩), hr⟩

end Sys2Proof.Machine

namespace Sys2Proof.Machine

/-! ## Card-naming requests that are accepted -/

/-- A request that names one card goes to work on the card that the directory finds (R22, R25, R45). -/
theorem cardFront_withCard {s : State} {n slot : Nat} {c : Card} (h : s.PassesFront [n])
    (hl : s.lookup n = some (slot, c)) (rest : Nat → Card → State → State → Reply × State) :
    cardFront [n] (fun s => withCard n s (fun slot card e => rest slot card e s)) s =
      rest slot (c.expire s.today) (s.reached n c) (s.compareWatch n) := by
  rw [cardFront_passed _ h]
  show withCard n (s.compareWatch n) _ = _
  rw [withCard_found _ ((s.compareWatch_lookup n n).trans hl), State.compareWatch_today]
  rfl

/-- Settles O21. -/
theorem inquireReportsCard : Obligations.InquireReportsCard := by
  intro s f n slot c hp hf hl
  have hw : (Request.inquire n).work s = (⟨.ok, inquireBody (c.expire s.today) (s.holdsOf slot)⟩,
      (s.reached n c).putCard slot (c.expire s.today)) := by
    show inquireUnit n s = _
    rw [inquireUnit, cardFront_withCard hf hl (fun slot card e w => (⟨.ok, inquireBody card (w.holdsOf slot)⟩, e.putCard slot card)),
      State.holdsOf, State.compareWatch_hold]
    rfl
  have he := hp.exec_card (r := .inquire n) (by simp [Request.cardNumbers])
  rw [hw] at he
  exact he

/-- SUSPEND and RESUME: a card that is not CLOSING takes the state named. -/
theorem setCardState_accepted {s : State} {n slot : Nat} {c : Card} (target : CardState) (h : s.PassesFront [n])
    (hl : s.lookup n = some (slot, c)) (hc : c.state ≠ .closing) :
    setCardState target n s = (⟨.ok, field 1 target.value⟩,
      (s.reached n c).putCard slot { c with lots := expireLots s.today c.lots, state := target }) := by
  have hne : ¬ (c.expire s.today).state = .closing := hc
  rw [setCardState, cardFront_withCard h hl (fun slot card e w => if card.state = .closing then (refuse .wrongState, w)
    else (⟨.ok, field 1 target.value⟩, e.putCard slot { card with state := target })), if_neg hne]
  rfl

theorem setCardState_closing {s : State} {n slot : Nat} {c : Card} (target : CardState) (h : s.PassesFront [n])
    (hl : s.lookup n = some (slot, c)) (hc : c.state = .closing) :
    setCardState target n s = (refuse .wrongState, s.compareWatch n) := by
  have he : (c.expire s.today).state = .closing := hc
  rw [setCardState, cardFront_withCard h hl (fun slot card e w => if card.state = .closing then (refuse .wrongState, w)
    else (⟨.ok, field 1 target.value⟩, e.putCard slot { card with state := target })), if_pos he]

/-- Settles O22. -/
theorem suspendResumeSetState : Obligations.SuspendResumeSetState := by
  intro s f n slot c hf hl
  have suspend : s.InProgress f (.suspend n) → exec .suspend s = .next ((setCardState .suspended n s).2.completeRequest f
      (setCardState .suspended n s).1) := fun hp => hp.exec_card (by simp [Request.cardNumbers])
  have resume : s.InProgress f (.resume n) → exec .resume s = .next ((setCardState .active n s).2.completeRequest f
      (setCardState .active n s).1) := fun hp => hp.exec_card (by simp [Request.cardNumbers])
  refine ⟨fun hc hp => ?_, fun hc hp => ?_, fun hc hp => ?_, fun hc hp => ?_⟩
  · rw [suspend hp, setCardState_accepted .suspended hf hl hc]
    rfl
  · rw [resume hp, setCardState_accepted .active hf hl hc]
    rfl
  · rw [suspend hp, setCardState_closing .suspended hf hl hc]
  · rw [resume hp, setCardState_closing .active hf hl hc]

/-- CLOSE of a card that is not CLOSING, by what the card has available and by its holds. -/
theorem closeUnit_found {s : State} {n slot : Nat} {c : Card} (h : s.PassesFront [n])
    (hl : s.lookup n = some (slot, c)) (hc : c.state ≠ .closing) :
    closeUnit n s = if (expireLots s.today c.lots).any (fun l => 0 < l.available) then
        (refuse .notEmpty, s.compareWatch n)
      else if c.openHolds = 0 then (⟨.ok, [1#8, 0#8, 0#8, 0#8]⟩, (s.reached n c).retireCard slot n)
      else (⟨.ok, [1#8, 1#8] ++ field 2 c.openHolds ++ field 4 (lotsHeld (expireLots s.today c.lots))⟩,
        (s.reached n c).putCard slot { c with lots := expireLots s.today c.lots, state := .closing }) := by
  have hne : ¬ (c.expire s.today).state = .closing := hc
  rw [closeUnit, cardFront_withCard h hl (fun slot card e w => if card.state = .closing then (refuse .wrongState, w)
    else if card.lots.any (fun l => 0 < l.available) then (refuse .notEmpty, w)
    else if card.openHolds = 0 then
      (⟨.ok, field 1 0 ++ fieldBytes 2 none ++ fieldBytes 4 none⟩, e.retireCard slot n)
    else (⟨.ok, field 1 1 ++ field 2 card.openHolds ++ field 4 (lotsHeld card.lots)⟩,
       e.putCard slot { card with state := .closing })), if_neg hne]
  rfl

/-- Settles O23. -/
theorem closeRetiresOrCloses : Obligations.CloseRetiresOrCloses := by
  intro s f n slot c hp hf hl hc
  have hx : exec .close s = .next ((closeUnit n s).2.completeRequest f (closeUnit n s).1) :=
    hp.exec_card (r := .close n) (by simp [Request.cardNumbers])
  have none_any : (∀ l ∈ expireLots s.today c.lots, l.available = 0) →
      (expireLots s.today c.lots).any (fun l => 0 < l.available) = false := fun h => by
    simpa [List.any_eq_false] using h
  rw [hx, closeUnit_found hf hl hc]
  refine ⟨fun h0 hh => ?_, fun h0 hh => ?_, fun ⟨l, hlm, hl0⟩ => ?_⟩
  · rw [none_any h0, if_neg (by simp), if_pos hh]
  · rw [none_any h0, if_neg (by simp), if_neg hh]
  · rw [if_pos (List.any_eq_true.mpr ⟨l, hlm, by simpa using Nat.pos_of_ne_zero hl0⟩)]

theorem expireLots_distinct {today : Option Nat} {lots : List Lot} (h : LotsFormed lots) :
    ((expireLots today lots).map (·.key)).Nodup := (expireLots_formed today lots h).distinct

/-- The merchants a LOAD or ISSUE names are ACTIVE: the second of its tests is passed (R28). -/
theorem State.isActive_of_state {s : State} {i : Nat} (h : (s.merchant i).state = .active) : s.isActive i = true := by
  simp [State.isActive, h]

/-- Settles O19. -/
theorem loadCreditsCard : Obligations.LoadCreditsCard := by
  intro s f n m a slot q c hp hf hr hm hq hl hc hformed before key after hlimit hfull
  have hx : exec .load s = .next ((loadUnit n m a q s).2.completeRequest f (loadUnit n m a q s).1) :=
    hp.exec_card (r := .load n m a q) (by simp [Request.cardNumbers])
  have hd := expireLots_distinct (today := s.today) hformed
  have hstate : (c.expire s.today).state = .active := hc
  have hlim : ¬ s.cfg.cardLimit < lotsValue (c.expire s.today).lots + a := Nat.not_lt.mpr hlimit
  have hroom : lotsFull (loadKey s.cfg.paidExpiryDays s.clock.day q) (c.expire s.today).lots = false := hfull
  have hw : loadUnit n m a q s = (⟨.ok, field 4 (lotsValue after) ++ field 4 (lotsAvailable after) ++ field 2 after.length
      ++ field 4 (availableOf key after)⟩,
      ((s.reached n c).putCard slot { c with lots := after, lastActivity := s.clock.day }).postAll (loadPostings m a q)) := by
    rw [loadUnit, cardFront_passed _ hf]
    simp only [List.foldl_cons, List.foldl_nil, State.compareWatch_clock, State.compareWatch_isActive, hr,
      Bool.not_true, Bool.false_eq_true, if_false, State.compareWatch_cfg]
    refine (if_neg ?_).trans ?_
    · rw [State.isActive_of_state hm]
      cases q with
      | none => exact Bool.false_ne_true
      | some x => simp [State.isActive_of_state (hq x rfl)]
    rw [withCard_found _ ((s.compareWatch_lookup n n).trans hl), State.compareWatch_today]
    simp only [hstate, hlim, hroom, if_false, Bool.false_eq_true]
    rw [← hstate]
    rfl
  rw [hx, hw, creditLots_value key a hd, creditLots_available key a hd, availableOf_credit hd]

/-- Settles O36. -/
theorem refundCreditsCard : Obligations.RefundCreditsCard := by
  intro s f n m t a slot c hp hf hm ht ha1 ha2 hu hl hc hformed hroom before key hlimit hfull after u
  have hx : exec .refund s = .next ((refundUnit n m t a s).2.completeRequest f (refundUnit n m t a s).1) :=
    hp.exec_card (r := .refund n m t a) (by simp [Request.cardNumbers])
  have hd := expireLots_distinct (today := s.today) hformed
  have hrange : (indexInRange m && decide (t ≤ 65535) && amountInRange a) = true := by
    simp [indexInRange, amountInRange, hm, ht, ha1, ha2]
  have hne : ¬ (c.expire s.today).state = .closing := hc
  have hallow : ¬ (s.merchant m).position.redeemed + (s.merchant m).allowance < (s.merchant m).position.refunded + a :=
    Nat.not_lt.mpr hroom
  have hlim : ¬ s.cfg.cardLimit < lotsValue (c.expire s.today).lots + a := Nat.not_lt.mpr hlimit
  have hlots : lotsFull (paidKey s.cfg.paidExpiryDays s.clock.day) (c.expire s.today).lots = false := hfull
  have hw : refundUnit n m t a s = (⟨.ok, field 4 (lotsValue after) ++ field 4 (lotsAvailable after) ++ field 2 after.length
      ++ field 8 (u.merchant m).refundRoom⟩, u) := by
    rw [refundUnit, cardFront_passed _ hf]
    simp only [List.foldl_cons, List.foldl_nil, hrange, State.compareWatch_merchant, hu, Bool.not_true, Bool.false_eq_true,
      if_false, State.compareWatch_cfg, State.compareWatch_clock]
    rw [withCard_found _ ((s.compareWatch_lookup n n).trans hl), State.compareWatch_today]
    simp only [hne, hallow, hlim, hlots, if_false, Bool.false_eq_true]
    rfl
  rw [hx, hw, creditLots_value key a hd, creditLots_available key a hd]
  rfl

end Sys2Proof.Machine

namespace Sys2Proof.Machine

/-! ## Postings (R19, R60, R101 to R105, R117) -/

theorem State.onMerchant_self {s : State} (h : tableWf s.merchants) (i : Nat) (g : Merchant → Merchant) :
    (s.onMerchant i g).merchant i = g (s.merchant i) := State.setMerchant_self h _ _

theorem State.onMerchant_ne {s : State} {i j : Nat} (g : Merchant → Merchant) (h : j ≠ i) :
    (s.onMerchant i g).merchant j = s.merchant j := State.setMerchant_ne _ h

theorem State.onMerchant_merchant {s : State} (h : tableWf s.merchants) (i j : Nat) (g : Merchant → Merchant) :
    (s.onMerchant i g).merchant j = if j = i then g (s.merchant i) else s.merchant j := by
  split
  · next e => subst e; exact State.onMerchant_self h _ g
  · next e => exact State.onMerchant_ne g e

theorem satHit_iff {m v a : Nat} : satHit m v a = true ↔ m < v + a := by simp [satHit]

theorem State.postField_merchant {s : State} (h : tableWf s.merchants) (i : Nat) (get : Position → Nat)
    (put : Position → Nat → Position) (a : Nat) :
    (s.postField i get put a).merchant i = { s.merchant i with
      position := (put (s.merchant i).position (min Config.sum48Max (get (s.merchant i).position + a))) } := by
  rw [State.postField, State.raiseIf_merchant, State.onMerchant_self h, add48, satAdd_eq_min]

theorem State.postFee_merchant {s : State} (h : tableWf s.merchants) {i : Nat} (hi : i ≠ 0) (a : Nat) :
    (s.postFee i a).merchant i = { s.merchant i with position := { (s.merchant i).position with
      feeUnits := min Config.feeUnitsMax ((s.merchant i).position.feeUnits +
        tierSplit (s.schedule (s.merchant i).schedule).active (s.merchant i).position.redeemed a)
      captureCount := min Config.sum48Max ((s.merchant i).position.captureCount + 1) } } := by
  rw [State.postFee, if_neg hi, State.raiseIf_merchant, State.onMerchant_self h, add48, satAdd_eq_min, satAdd_eq_min]

theorem State.postSponsored_merchant {s : State} (h : tableWf s.merchants) (i : Nat) (g : Nat → Nat) (b : Bool) :
    (s.postSponsored i g b).merchant i = { s.merchant i with sponsored := g (s.merchant i).sponsored } := by
  rw [State.postSponsored, State.raiseIf_merchant, State.onMerchant_self h]

/-- A posting moves its target's record alone. -/
theorem State.post_merchant_ne (s : State) {p : Posting} {j : Nat} (h : p.target ≠ some j) :
    (s.post p).merchant j = s.merchant j := by
  have other : ∀ {i : Nat}, some i ≠ some j → j ≠ i := fun hne e => hne (e ▸ rfl)
  cases p
  case feePart i a =>
    simp only [State.post, State.postFee]
    split
    · rfl
    · next hi =>
      rw [State.raiseIf_merchant, State.onMerchant_ne]
      exact other (by simpa [Posting.target, hi] using h)
  case paidUp | promoUp => exact State.raiseIf_merchant ..
  case paidDown | promoDown => rfl
  case sponsoredUp | sponsoredDown =>
    simp only [State.post, State.postSponsored, State.raiseIf_merchant]
    exact State.onMerchant_ne _ (other h)
  all_goals
    simp only [State.post, State.postField, State.raiseIf_merchant]
    exact State.onMerchant_ne _ (other h)

theorem State.postField_cards (s : State) (i : Nat) (get : Position → Nat) (put : Position → Nat → Position) (a : Nat) :
    (s.postField i get put a).cards = s.cards := by simp [State.postField]

theorem State.postFee_cards (s : State) (i a : Nat) : (s.postFee i a).cards = s.cards := by
  unfold State.postFee
  split
  · rfl
  · simp

theorem State.postSponsored_cards (s : State) (i : Nat) (g : Nat → Nat) (b : Bool) :
    (s.postSponsored i g b).cards = s.cards := by simp [State.postSponsored]

/-- The paid total after a posting (R19, R105). -/
theorem State.post_paid (s : State) (p : Posting) : (s.post p).cards.paidOutstanding = match p with
    | .paidUp a => min Config.sum48Max (s.cards.paidOutstanding + a)
    | .paidDown a => sub48 s.cards.paidOutstanding a
    | _ => s.cards.paidOutstanding := by
  cases p <;> simp [State.post, State.postField_cards, State.postFee_cards, State.postSponsored_cards, add48, satAdd_eq_min]

/-- The promotional total after a posting (R19, R105). -/
theorem State.post_promo (s : State) (p : Posting) : (s.post p).cards.promoOutstanding = match p with
    | .promoUp a => min Config.sum48Max (s.cards.promoOutstanding + a)
    | .promoDown a => sub48 s.cards.promoOutstanding a
    | _ => s.cards.promoOutstanding := by
  cases p <;> simp [State.post, State.postField_cards, State.postFee_cards, State.postSponsored_cards, add48, satAdd_eq_min]

/-- SATURATED raised on a condition touches the link no further. -/
theorem State.raiseIf_saturated {s : State} {l : Link} {b : Bool} {q : Prop} (h : b = true ↔ q) (hl : s.link = l) :
    (q → (s.raiseIf b .saturated).link = { l with latched := l.latched ||| 2048#16 }) ∧
    (¬ q → (s.raiseIf b .saturated).link = l) := by
  subst hl
  refine ⟨fun hq => ?_, fun hq => ?_⟩
  · rw [h.mpr hq]; rfl
  · rw [Bool.eq_false_iff.mpr fun hb => hq (h.mp hb)]; rfl

/-- A posting raises SATURATED exactly when it would take a sum past its maximum, and touches the link no further (R105). -/
theorem State.post_link (s : State) (p : Posting) :
    (p.passes s → (s.post p).link = { s.link with latched := s.link.latched ||| 2048#16 }) ∧
    (¬ p.passes s → (s.post p).link = s.link) := by
  cases p
  case feePart i a =>
    by_cases hi : i = 0
    · subst hi
      exact ⟨fun h => absurd rfl h.1, fun _ => rfl⟩
    · simp only [State.post, State.postFee, if_neg hi]
      exact State.raiseIf_saturated (by simp [satHit, Posting.passes, hi]) rfl
  case paidDown | promoDown | sponsoredDown => exact ⟨False.elim, fun _ => rfl⟩
  all_goals exact State.raiseIf_saturated satHit_iff rfl

theorem sub48_below {v a : Nat} (h : v < 281474976710655) : sub48 v a = v - a := if_neg (Nat.ne_of_lt h)
theorem sub48_max (a : Nat) : sub48 281474976710655 a = 281474976710655 := by simp [sub48, satSub]

/-- Settles O31, from the effect of each posting on the merchant it names, the totals and the link. -/
theorem postingsMoveOneSum : Obligations.PostingsMoveOneSum := by
  intro s i a hformed
  have hw : tableWf s.merchants := hformed.merchants.1
  have down : (s.post (.sponsoredDown i a)).merchant i =
      { s.merchant i with sponsored := sub48 (s.merchant i).sponsored a } := State.postSponsored_merchant hw _ _ _
  refine ⟨s.post_money, State.postField_merchant hw _ _ _ _, State.postField_merchant hw _ _ _ _,
    State.postField_merchant hw _ _ _ _, State.postField_merchant hw _ _ _ _, State.postField_merchant hw _ _ _ _,
    State.postField_merchant hw _ _ _ _, ?_, fun h => ?_, fun hi => State.postFee_merchant hw hi a, rfl,
    s.post_paid (.paidUp a), fun h => (s.post_paid (.paidDown a)).trans (sub48_below h), s.post_promo (.promoUp a),
    fun h => (s.post_promo (.promoDown a)).trans (sub48_below h), fun h => ?_, fun h => ?_, fun h => ?_,
    fun p j h => s.post_merchant_ne h, fun p h => ?_, fun p h => ?_, s.post_link⟩
  · rw [State.post, State.postSponsored_merchant hw, add48, satAdd_eq_min]
  · rw [down, sub48_below h]
  · rw [s.post_paid]; dsimp only; rw [h, sub48_max]
  · rw [s.post_promo]; dsimp only; rw [h, sub48_max]
  · rw [down]; dsimp only; rw [h, sub48_max]
  · rw [s.post_paid]
    cases p with
    | paidUp x => exact absurd rfl (h x).1
    | paidDown x => exact absurd rfl (h x).2
    | _ => rfl
  · rw [s.post_promo]
    cases p with
    | promoUp x => exact absurd rfl (h x).1
    | promoDown x => exact absurd rfl (h x).2
    | _ => rfl

end Sys2Proof.Machine

namespace Sys2Proof.Machine

/-! ## ISSUE (R2, R3, R30 to R32) -/

/-- The lowest free number is free, and every number below it is taken. -/
theorem tableLowestFree_spec {α : Type} {t : Table α} (h : tableWf t) {k : Nat} (hk : ∀ e ∈ t, k ≤ e.1) :
    k ≤ tableLowestFree t k ∧ tableFind t (tableLowestFree t k) = none ∧
      ∀ j, k ≤ j → j < tableLowestFree t k → tableFind t j ≠ none := by
  induction t generalizing k with
  | nil => exact ⟨Nat.le_refl k, rfl, fun j h1 h2 => absurd h2 (Nat.not_lt.mpr h1)⟩
  | cons e rest ih =>
    obtain ⟨i, v⟩ := e
    obtain ⟨hlt, hr⟩ := List.pairwise_cons.mp h
    have hik : k ≤ i := hk (i, v) List.mem_cons_self
    by_cases hi : i = k
    · subst hi
      obtain ⟨hle, hfree, hbelow⟩ := ih hr (k := i + 1) (fun e he => hlt e he)
      simp only [tableLowestFree, if_true]
      refine ⟨by omega, ?_, fun j h1 h2 => ?_⟩
      · rw [tableFind, if_neg (by omega)]; exact hfree
      · by_cases hj : i = j
        · simp [tableFind, hj]
        · rw [tableFind, if_neg hj]; exact hbelow j (by omega) h2
    · have hrest : ∀ e ∈ rest, k < e.1 := fun e he => Nat.lt_of_le_of_lt hik (hlt e he)
      have hstop : tableLowestFree rest k = k := by
        cases rest with
        | nil => rfl
        | cons x xs =>
          obtain ⟨hle, -, hbelow⟩ := ih hr (fun e he => Nat.le_of_lt (hrest e he))
          by_contra hne
          exact hbelow k (Nat.le_refl k) (by omega) (tableFind_none_of_lt _ k hrest)
      simp only [tableLowestFree, if_neg hi, hstop]
      refine ⟨Nat.le_refl k, ?_, fun j h1 h2 => absurd h2 (Nat.not_lt.mpr h1)⟩
      rw [tableFind, if_neg hi]
      exact tableFind_none_of_lt _ k hrest

/-- The slot that is free while every slot below it is occupied is the lowest free one. -/
theorem tableLowestFree_eq {α : Type} {t : Table α} (h : tableWf t) {slot : Nat} (hfree : tableFind t slot = none)
    (hbelow : ∀ j < slot, tableFind t j ≠ none) : tableLowestFree t 0 = slot := by
  obtain ⟨-, hf, hb⟩ := tableLowestFree_spec h (k := 0) (fun _ _ => Nat.zero_le _)
  rcases Nat.lt_trichotomy (tableLowestFree t 0) slot with hlt | heq | hgt
  · exact absurd hf (hbelow _ hlt)
  · exact heq
  · exact absurd hfree (hb slot (Nat.zero_le _) hgt)

theorem issueLots_value (key : LotKey) (paid : Nat) (promo : Option PromoIssue) :
    lotsValue (issueLots key paid promo) = paid + promoAmount promo := by
  cases promo <;> by_cases hp : paid = 0 <;> simp [issueLots, lotsValue, promoAmount, hp, Nat.add_comm]

/-- The new card of an ISSUE. -/
abbrev issuedCard (s : State) (n p : Nat) (q : Option PromoIssue) : Card :=
  ⟨n, .active, issueLots (paidKey s.cfg.paidExpiryDays s.clock.day) p q, 0, s.clock.day⟩

/-- ISSUE, when each of its tests is passed. -/
theorem issueUnit_accepted {s : State} {n m p slot : Nat} {q : Option PromoIssue} (hf : s.PassesFront [n])
    (hr : issueInRange s.clock.day m p q = true) (hm : (s.merchant m).state = .active)
    (hq : ∀ x, q = some x → (s.merchant x.sponsor).state = .active) (hd : tableFind s.cards.directory n = none)
    (hslot : tableLowestFree s.cards.slots 0 = slot) (hlt : slot < 131072) (hl : p + promoAmount q ≤ s.cfg.cardLimit) :
    issueUnit n m p q s = (⟨.ok, field 4 (p + promoAmount q) ++
        field 2 (issueLots (paidKey s.cfg.paidExpiryDays s.clock.day) p q).length⟩,
      ((s.compareWatch n).insertCard slot (issuedCard s n p q)).postAll (issuePostings m p q)) := by
  have hfull : ¬ Config.cardSlots ≤ slot := Nat.not_le.mpr hlt
  have hlimit : ¬ s.cfg.cardLimit < p + promoAmount q := Nat.not_lt.mpr hl
  rw [issueUnit, cardFront_passed _ hf]
  simp only [List.foldl_cons, List.foldl_nil, State.compareWatch_clock, State.compareWatch_isActive, hr, Bool.not_true,
    Bool.false_eq_true, if_false, State.compareWatch_cards, State.compareWatch_cfg, hd, Option.isSome_none, hslot, hfull,
    hlimit]
  refine (if_neg ?_).trans ?_
  · rw [State.isActive_of_state hm]
    cases q with
    | none => exact Bool.false_ne_true
    | some x => simp [State.isActive_of_state (hq x rfl)]
  · rw [issueLots_value]

/-- Watch matches, then a write of the card table, then postings. -/
theorem State.FlagsOnly.cardsOnly {s t v u : State} (h : s.FlagsOnly t) (k : v = { t with cards := v.cards })
    (m : v.MoneyOnly u) : s.CardsOnly u := by
  unfold State.FlagsOnly at h
  unfold State.MoneyOnly at m
  unfold State.CardsOnly
  rw [m, k, h]

/-- Postings that name no merchant but these leave the others. -/
theorem State.postAll_merchant_ne (s : State) {ps : List Posting} {j : Nat} (h : ∀ p ∈ ps, p.target ≠ some j) :
    (s.postAll ps).merchant j = s.merchant j := by
  induction ps generalizing s with
  | nil => rfl
  | cons p ps ih =>
    exact (ih (s.post p) (fun x hx => h x (List.mem_cons_of_mem p hx))).trans (s.post_merchant_ne (h p List.mem_cons_self))

theorem State.postAll_append (s : State) (ps qs : List Posting) : s.postAll (ps ++ qs) = (s.postAll ps).postAll qs :=
  List.foldl_append

theorem State.postAll_cons (s : State) (p : Posting) (ps : List Posting) : s.postAll (p :: ps) = (s.post p).postAll ps := rfl
@[simp] theorem State.postAll_nil (s : State) : s.postAll [] = s := rfl

/-- The paid part of an ISSUE's postings (R32). -/
abbrev soldPostings (merchant paid : Nat) : List Posting := if paid = 0 then [] else [.sold merchant paid, .paidUp paid]

/-- The promotional part of an ISSUE's postings (R32). -/
abbrev promoPostings : Option PromoIssue → List Posting
  | none => []
  | some q => [.promoUp q.amount, .sponsoredUp q.sponsor q.amount]

theorem issuePostings_eq (m p : Nat) (q : Option PromoIssue) : issuePostings m p q = soldPostings m p ++ promoPostings q := by
  cases q <;> rfl

theorem add48_eq_min (v a : Nat) : add48 v a = min Config.sum48Max (v + a) := satAdd_eq_min _ _ _

/-- What SOLD and the paid total come to, and that nothing else of the books moves (R32). -/
theorem State.postAll_sold {s : State} (h : tableWfD Merchant.unlisted s.merchants) (m p : Nat) :
    let u := s.postAll (soldPostings m p)
    tableWfD Merchant.unlisted u.merchants ∧
    u.cards.paidOutstanding = (if p = 0 then s.cards.paidOutstanding else add48 s.cards.paidOutstanding p) ∧
    u.cards.promoOutstanding = s.cards.promoOutstanding ∧
    u.merchant m = (if p = 0 then s.merchant m else { s.merchant m with
      position := { (s.merchant m).position with sold := add48 (s.merchant m).position.sold p } }) ∧
    (∀ j, (u.merchant j).sponsored = (s.merchant j).sponsored) ∧
    (∀ j, j ≠ m → u.merchant j = s.merchant j) := by
  by_cases hp : p = 0
  · simpa [soldPostings, hp] using h
  · have hm : (s.postAll (soldPostings m p)).merchant m = { s.merchant m with
        position := { (s.merchant m).position with sold := add48 (s.merchant m).position.sold p } } := by
      simp only [soldPostings, if_neg hp, State.postAll_cons, State.postAll_nil]
      rw [State.post_merchant_ne _ (by simp [Posting.target]), add48_eq_min]
      exact State.postField_merchant h.1 m _ _ p
    have hne : ∀ j, j ≠ m → (s.postAll (soldPostings m p)).merchant j = s.merchant j := fun j hj =>
      s.postAll_merchant_ne (by simp [soldPostings, hp, Posting.target, Ne.symm hj])
    refine ⟨(s.postAll_kept _ h).1, ?_, ?_, by rw [if_neg hp]; exact hm, fun j => ?_, hne⟩
    · simp only [soldPostings, if_neg hp, State.postAll_cons, State.postAll_nil, State.post_paid, add48_eq_min]
    · simp only [soldPostings, if_neg hp, State.postAll_cons, State.postAll_nil, State.post_promo]
    · by_cases hj : j = m
      · subst hj; rw [hm]
      · rw [hne j hj]

/-- What the promotional total and the sponsor's outstanding come to (R32). -/
theorem State.postAll_promo {s : State} (h : tableWfD Merchant.unlisted s.merchants) (x : PromoIssue) :
    let u := s.postAll (promoPostings (some x))
    u.cards.paidOutstanding = s.cards.paidOutstanding ∧
    u.cards.promoOutstanding = add48 s.cards.promoOutstanding x.amount ∧
    u.merchant x.sponsor =
      { s.merchant x.sponsor with sponsored := add48 (s.merchant x.sponsor).sponsored x.amount } ∧
    (∀ j, j ≠ x.sponsor → u.merchant j = s.merchant j) := by
  have hp := s.post_kept (.promoUp x.amount) h
  have hs : ∀ j, (s.post (.promoUp x.amount)).merchant j = s.merchant j := fun j =>
    s.post_merchant_ne (by simp [Posting.target])
  refine ⟨?_, ?_, ?_, fun j hj => s.postAll_merchant_ne (by simp [promoPostings, Posting.target, Ne.symm hj])⟩
  · simp only [promoPostings, State.postAll_cons, State.postAll_nil, State.post_paid]
  · simp only [promoPostings, State.postAll_cons, State.postAll_nil, State.post_promo, add48_eq_min]
  · simp only [promoPostings, State.postAll_cons, State.postAll_nil]
    rw [State.post, State.postSponsored_merchant hp.1.1, hs]

/-- Settles O18: each part of ISSUE's postings moves its own sums, and the insertion writes slot and directory. -/
theorem issueCreatesCard : Obligations.IssueCreatesCard := by
  intro s f n m p slot q hp ht hf hr hm hq hd hslot hfree hbelow hlimit lots
  have hx : exec .issue s = .next ((issueUnit n m p q s).2.completeRequest f (issueUnit n m p q s).1) :=
    hp.exec_card (r := .issue n m p q) (by simp [Request.cardNumbers])
  rw [issueUnit_accepted hf hr hm hq hd (tableLowestFree_eq ht.slots hfree hbelow) hslot hlimit] at hx
  refine ⟨_, hx, ?_, ?_⟩
  · exact (s.compareWatch_flags n).cardsOnly rfl (State.postAll_money ((s.compareWatch n).insertCard slot (issuedCard s n p q)) _)
  generalize hv : (s.compareWatch n).insertCard slot (issuedCard s n p q) = v
  have vslots : v.cards.slots = tableInsert s.cards.slots slot (issuedCard s n p q) := by subst hv; simp [State.insertCard]
  have vdir : v.cards.directory = tableInsert s.cards.directory n slot := by subst hv; simp [State.insertCard]
  have vmer : v.merchants = s.merchants := by subst hv; simp
  have vpaid : v.cards.paidOutstanding = s.cards.paidOutstanding := by subst hv; simp [State.insertCard]
  have vpromo : v.cards.promoOutstanding = s.cards.promoOutstanding := by subst hv; simp [State.insertCard]
  have vm : ∀ j, v.merchant j = s.merchant j := fun j => by simp [State.merchant, vmer]
  obtain ⟨twf, tpaid, tpromo, tm, tsp, tne⟩ := State.postAll_sold (s := v) (vmer ▸ ht.merchants) m p
  simp only [vm, vpaid, vpromo] at tpaid tpromo tm tsp tne
  rw [issuePostings_eq, State.postAll_append]
  generalize ht' : v.postAll (soldPostings m p) = t at *
  have tslots : t.cards.slots = v.cards.slots := by subst ht'; simp
  have tdir : t.cards.directory = v.cards.directory := by subst ht'; simp
  refine ⟨?_, ?_, fun j hj => ?_, fun k hk => ?_, ?_⟩
  · simp [State.cardAt, tslots, vslots, tableFind_insert_self, lots]
  · simp [tdir, vdir, tableFind_insert_self]
  · simp [State.cardAt, tslots, vslots, tableFind_insert_ne _ _ hj]
  · simp [tdir, vdir, tableFind_insert_ne _ _ hk]
  cases q with
  | none =>
    refine ⟨tpaid, ?_, nofun, fun j hj _ => tne j hj⟩
    show (t.merchant m).position.sold = _
    rw [tm]; split <;> rfl
  | some x =>
    obtain ⟨upaid, upromo, usp, une⟩ := State.postAll_promo twf x
    refine ⟨upaid.trans tpaid, ?_, fun y hy => ?_, fun j hj hne => (une j (hne x rfl)).trans (tne j hj)⟩
    · by_cases hxm : m = x.sponsor
      · rw [hxm, usp, ← hxm, tm]; split <;> rfl
      · rw [une m hxm, tm]; split <;> rfl
    · obtain rfl := Option.some.inj hy
      rw [upromo, tpromo, usp, tsp]
      exact ⟨rfl, rfl⟩

end Sys2Proof.Machine

namespace Sys2Proof.Machine

/-! ## The number check (R4) -/

/-- The weight of the digit in place `k`, counted from the right: even places (the second, fourth, ...) are doubled (R4). -/
abbrev placeWeight (even : Bool) (k d : Nat) : Nat := digitWeight (even ^^ decide (k % 2 = 1)) d

/-- The check sum as a sum over the places. -/
theorem digitSum_eq (k : Nat) (even : Bool) (n : Nat) :
    digitSum k even n = ∑ i ∈ Finset.range k, placeWeight even i (n / 10 ^ i % 10) := by
  induction k generalizing even n with
  | zero => rfl
  | succ k ih =>
    rw [Finset.sum_range_succ', digitSum, ih, Nat.add_comm]
    congr 1
    · refine Finset.sum_congr rfl fun i _ => ?_
      have hpar : (!even ^^ decide (i % 2 = 1)) = (even ^^ decide ((i + 1) % 2 = 1)) := by
        rcases Nat.mod_two_eq_zero_or_one i with h | h <;> simp [Nat.add_mod, h]
      rw [Nat.div_div_eq_div_mul, ← Nat.pow_succ']
      simp only [placeWeight, hpar]
    · simp [placeWeight]

theorem validNumber_iff (n : Nat) : validNumber n = true ↔
    n ≤ Config.cardNumberMax ∧ (∑ i ∈ Finset.range 16, placeWeight false i (n / 10 ^ i % 10)) % 10 = 0 := by
  simp [validNumber, digitSum_eq]

/-- The weight of a digit, in the form of R4. -/
theorem placeWeight_eq (k d : Nat) :
    placeWeight false k d = if k % 2 = 0 then d else if 4 < d then 2 * d - 9 else 2 * d := by
  have h9 : 2 * d > 9 ↔ 4 < d := by omega
  rcases Nat.mod_two_eq_zero_or_one k with h | h <;> simp [placeWeight, digitWeight, h, h9]

/-- Two digits of the same weight, modulo 10, are one. -/
theorem digitWeight_inj : ∀ (even : Bool) (d : Fin 10) (e : Fin 10),
    digitWeight even d.val % 10 = digitWeight even e.val % 10 → d = e := by decide

/-- A number with the digit in place `k` changed to `d`. -/
abbrev setDigit (n k d : Nat) : Nat := n - n / 10 ^ k % 10 * 10 ^ k + d * 10 ^ k

/-- A number as what stands above a digit, the digit, and what stands below it. -/
theorem setDigit_eq (n k d : Nat) : setDigit n k d = (n / 10 ^ (k + 1) * 10 + d) * 10 ^ k + n % 10 ^ k := by
  unfold setDigit
  have h1 : n = 10 ^ k * (n / 10 ^ k) + n % 10 ^ k := (Nat.div_add_mod n (10 ^ k)).symm
  have h2 : n / 10 ^ k = 10 * (n / 10 ^ (k + 1)) + n / 10 ^ k % 10 := by
    rw [Nat.pow_succ, ← Nat.div_div_eq_div_mul, Nat.div_add_mod]
  generalize n / 10 ^ k % 10 = x at *
  generalize n / 10 ^ (k + 1) = hi at *
  generalize n % 10 ^ k = lo at *
  generalize n / 10 ^ k = q at *
  generalize 10 ^ k = b at *
  subst h2
  have hn : n = hi * 10 * b + x * b + lo := by rw [h1]; ring
  have hm : n - x * b = hi * 10 * b + lo := by omega
  rw [hm]
  ring

theorem setDigit_same {n k d : Nat} (hd : d < 10) : setDigit n k d / 10 ^ k % 10 = d := by
  have hlt : n % 10 ^ k < 10 ^ k := Nat.mod_lt _ (by positivity)
  rw [setDigit_eq, Nat.add_comm, Nat.add_mul_div_right _ _ (by positivity), Nat.div_eq_of_lt hlt]
  omega

theorem setDigit_other {n k d i : Nat} (hd : d < 10) (hi : i ≠ k) : setDigit n k d / 10 ^ i % 10 = n / 10 ^ i % 10 := by
  have hlt : n % 10 ^ k < 10 ^ k := Nat.mod_lt _ (by positivity)
  rcases Nat.lt_or_gt_of_ne hi with h | h
  · obtain ⟨j, rfl⟩ : ∃ j, k = i + 1 + j := ⟨k - i - 1, by omega⟩
    have hmod : setDigit n (i + 1 + j) d % 10 ^ (i + 1) = n % 10 ^ (i + 1) := by
      rw [setDigit_eq, Nat.pow_add 10 (i + 1) j, ← Nat.mul_assoc, Nat.mul_right_comm, Nat.mul_add_mod_self_right,
        Nat.mod_mul_right_mod]
    have hdigit : ∀ m : Nat, m / 10 ^ i % 10 = m % 10 ^ (i + 1) / 10 ^ i := fun m => by
      rw [Nat.pow_succ, Nat.mod_mul_right_div_self]
    rw [hdigit, hdigit, hmod]
  · obtain ⟨j, rfl⟩ : ∃ j, i = k + 1 + j := ⟨i - k - 1, by omega⟩
    have hdiv : setDigit n k d / 10 ^ (k + 1) = n / 10 ^ (k + 1) := by
      rw [Nat.pow_succ, ← Nat.div_div_eq_div_mul, setDigit_eq, Nat.add_comm, Nat.add_mul_div_right _ _ (by positivity),
        Nat.div_eq_of_lt hlt, Nat.pow_succ]
      omega
    rw [Nat.pow_add, ← Nat.div_div_eq_div_mul, hdiv, Nat.div_div_eq_div_mul]

/-- A valid number with one digit changed is not valid (R4). -/
theorem validNumber_setDigit {n k d : Nat} (h : validNumber n = true) (hk : k < 16) (hd : d < 10)
    (hne : d ≠ n / 10 ^ k % 10) : validNumber (setDigit n k d) = false := by
  by_contra hc
  have h1 := ((validNumber_iff n).mp h).2
  have h2 := ((validNumber_iff _).mp (by simpa using hc)).2
  have hmem : k ∈ Finset.range 16 := Finset.mem_range.mpr hk
  rw [← Finset.add_sum_erase _ _ hmem] at h1 h2
  rw [setDigit_same hd, Finset.sum_congr rfl (fun i hi => by rw [setDigit_other hd (Finset.ne_of_mem_erase hi)])] at h2
  have hlt : n / 10 ^ k % 10 < 10 := Nat.mod_lt _ (by decide)
  have := digitWeight_inj (false ^^ decide (k % 2 = 1)) ⟨d, hd⟩ ⟨n / 10 ^ k % 10, hlt⟩ (by
    simp only [placeWeight] at h1 h2 ⊢
    omega)
  exact hne (congrArg Fin.val this)

/-! ## Refusals (R25, R29) -/

/-- What a refused request leaves: the state with the watch matches that it was given, and an answer without a field, but for
INSUFFICIENT, which carries the available of a card after lazy expiry. -/
def RefusalKeeps (s : State) (ns : List Nat) (w : State) (x : Reply × State) : Prop :=
  x.1.result = .ok ∨ x.1.result = .partialOk ∨ x.2 = w ∧
    (x.1.result ≠ .insufficient ∧ x.1.body = [] ∨
      ∃ n ∈ ns, ∃ slot c, s.lookup n = some (slot, c) ∧ x.1 = insufficient (lotsAvailable (expireLots s.today c.lots)))

theorem RefusalKeeps.refuse {s w : State} {ns : List Nat} {r : Result} (h : r ≠ .insufficient) :
    RefusalKeeps s ns w (refuse r, w) := .inr (.inr ⟨rfl, .inl ⟨h, rfl⟩⟩)

theorem RefusalKeeps.accept {s w t : State} {ns : List Nat} {b : List Byte} : RefusalKeeps s ns w (⟨.ok, b⟩, t) := .inl rfl

/-- A test that refuses. -/
theorem RefusalKeeps.test {s w : State} {ns : List Nat} {x : Reply × State} {c : Prop} [Decidable c] {r : Result}
    (hr : r ≠ .insufficient) (h : RefusalKeeps s ns w x) : RefusalKeeps s ns w (if c then (Machine.refuse r, w) else x) := by
  split
  · exact .refuse hr
  · exact h

/-- A request for a card is refused with NO_CARD, or goes to work on the card found. -/
theorem RefusalKeeps.withCard {s w : State} {ns : List Nat} {n : Nat} (hl : w.lookup n = s.lookup n)
    (rest : Nat → Card → State → Reply × State)
    (h : ∀ slot c e, s.lookup n = some (slot, c) → RefusalKeeps s ns w (rest slot (c.expire w.today) e)) :
    RefusalKeeps s ns w (withCard n w rest) := by
  cases hc : w.lookup n with
  | none => rw [withCard_absent _ hc]; exact .refuse nofun
  | some x =>
    obtain ⟨slot, c⟩ := x
    rw [withCard_found _ hc]
    exact h slot c _ (hl ▸ hc)

/-- The amount a purchase gets, when it gets one, is answered OK or PARTIAL_OK (R54). -/
theorem amountDecided_result {available amount : Nat} {partialOk : Bool} {r : Result} {a : Nat}
    (h : amountDecided available amount partialOk = some (r, a)) : r = .ok ∨ r = .partialOk := by
  unfold amountDecided at h
  split at h
  · exact .inl (Prod.mk.inj (Option.some.inj h)).1.symm
  · split at h
    · exact .inr (Prod.mk.inj (Option.some.inj h)).1.symm
    · cases h

theorem basketRefusal_ne {t : HoldTable} {m : Nat} {b : Option Nat} {r : Result} (h : basketRefusal t m b = some r) :
    r ≠ .insufficient := by
  rintro rfl
  unfold basketRefusal at h
  repeat' split at h
  all_goals cases h

/-- The work of a card-naming request after its front checks: refused, it keeps the state it was given. -/
theorem Request.rest_refused {r : Request} (h : r.cardNumbers ≠ []) : ∃ rest, r.work = cardFront r.cardNumbers rest ∧
    ∀ s w : State, (∀ n, w.lookup n = s.lookup n) → w.today = s.today → RefusalKeeps s r.cardNumbers w (rest w) := by
  cases r
  case issue n m p q =>
    refine ⟨_, by show issueUnit n m p q = _; delta issueUnit; rfl, fun s w hl ht => ?_⟩
    exact .test nofun (.test nofun (.test nofun (.test nofun (.test nofun .accept))))
  case load n m a q =>
    refine ⟨_, by show loadUnit n m a q = _; delta loadUnit; rfl, fun s w hl ht => ?_⟩
    refine .test nofun (.test nofun (.withCard (hl n) _ fun slot c e hc => ?_))
    split
    · exact .refuse nofun
    · exact .refuse nofun
    · exact .test nofun (.test nofun .accept)
  case inquire n =>
    refine ⟨_, by show inquireUnit n = _; delta inquireUnit; rfl,
      fun s w hl ht => .withCard (hl n) _ fun slot c e hc => ?_⟩
    exact .accept
  case suspend n =>
    refine ⟨_, by show setCardState .suspended n = _; delta setCardState; rfl,
      fun s w hl ht => .withCard (hl n) _ fun slot c e hc => ?_⟩
    exact .test nofun .accept
  case resume n =>
    refine ⟨_, by show setCardState .active n = _; delta setCardState; rfl,
      fun s w hl ht => .withCard (hl n) _ fun slot c e hc => ?_⟩
    exact .test nofun .accept
  case close n =>
    refine ⟨_, by show closeUnit n = _; delta closeUnit; rfl,
      fun s w hl ht => .withCard (hl n) _ fun slot c e hc => ?_⟩
    refine .test nofun (.test nofun ?_)
    split
    · exact .accept
    · exact .accept
  case replace o n =>
    refine ⟨_, by show replaceUnit o n = _; delta replaceUnit; rfl,
      fun s w hl ht => .withCard (hl o) _ fun slot c e hc => ?_⟩
    exact .test nofun (.test nofun (.test nofun .accept))
  case authorize n m t a p mi b =>
    refine ⟨_, by show authorizeUnit n m t a p mi b = _; delta authorizeUnit; rfl, fun s w hl ht => ?_⟩
    refine .test nofun (.test nofun (.withCard (hl n) _ fun slot c e hc => ?_))
    split
    · exact .refuse nofun
    · exact .refuse nofun
    split
    · exact .refuse nofun
    split
    · next hb => exact .refuse (basketRefusal_ne hb)
    dsimp only
    split
    · exact .inr (.inr ⟨rfl, .inr ⟨n, List.mem_singleton_self n, slot, c, hc, by rw [← ht]; rfl⟩⟩)
    · next hd => exact (amountDecided_result hd).imp id .inl
  case sale n m t a p =>
    refine ⟨_, by show saleUnit n m t a p = _; delta saleUnit; rfl, fun s w hl ht => ?_⟩
    refine .test nofun (.test nofun (.withCard (hl n) _ fun slot c e hc => ?_))
    split
    · exact .refuse nofun
    · exact .refuse nofun
    dsimp only
    split
    · exact .inr (.inr ⟨rfl, .inr ⟨n, List.mem_singleton_self n, slot, c, hc, by rw [← ht]; rfl⟩⟩)
    · next hd => exact (amountDecided_result hd).imp id .inl
  case refund n m t a =>
    refine ⟨_, by show refundUnit n m t a = _; delta refundUnit; rfl, fun s w hl ht => ?_⟩
    refine .test nofun (.test nofun (.withCard (hl n) _ fun slot c e hc => ?_))
    exact .test nofun (.test nofun (.test nofun (.test nofun .accept)))
  all_goals exact absurd rfl h

/-- Settles O16. -/
theorem frontChecksInOrder : Obligations.FrontChecksInOrder := by
  intro s f r
  refine ⟨fun hc hh hk hw hs hf => s.exec_row_malformed hc hh hk hw hs hf, fun hn hp => ?_, fun n => ⟨?_, fun k d hv hk hd hne =>
    validNumber_setDigit hv hk hd hne⟩⟩
  · obtain ⟨rest, hrest, -⟩ := Request.rest_refused hn
    have hx := hp.exec_card hn
    rw [hrest] at hx
    have clash : (∃ n ∈ r.cardNumbers, validNumber n = false) → ¬ ∀ n ∈ r.cardNumbers, validNumber n = true :=
      fun ⟨n, hn, hb⟩ hv => absurd (hv n hn) (by simp [hb])
    refine ⟨fun hset => ?_, fun hset hbad => ?_, fun hset hv ⟨n, hn, hd⟩ => ?_⟩ <;> rw [hx]
    · rw [cardFront, whenSet_unset _ hp.ready hset]
    · rcases cardFront_cases r.cardNumbers rest hp.ready with ⟨h1, -⟩ | ⟨-, -, e⟩ | ⟨-, h2, -⟩ | ⟨h1, -⟩
      · exact absurd hset (by simp [h1])
      · rw [e]
      · exact absurd h2 (clash hbad)
      · exact absurd h1.valid (clash hbad)
    · rcases cardFront_cases r.cardNumbers rest hp.ready with ⟨h1, -⟩ | ⟨-, h2, -⟩ | ⟨-, -, -, e⟩ | ⟨h1, -⟩
      · exact absurd hset (by simp [h1])
      · exact absurd hv (clash h2)
      · rw [e]
      · exact absurd (h1.free n hn) (by simp [hd])
  · rw [validNumber_iff]
    simp only [placeWeight_eq]
    rfl

theorem State.FlagsOnly.lookup {s t : State} (h : s.FlagsOnly t) (n : Nat) : t.lookup n = s.lookup n := by
  rw [h.eq]; rfl

theorem State.FlagsOnly.today {s t : State} (h : s.FlagsOnly t) : t.today = s.today := by
  rw [h.eq]; rfl

/-- The state that a refusal of a card-naming request leaves (R29, R45). -/
abbrev State.watchRecorded (s : State) (ns : List Nat) : State :=
  if s.clock.isSet = true ∧ ∀ n ∈ ns, validNumber n = true then ns.foldl State.compareWatch s else s

/-- A refused card-naming request, in whichever check it is refused. -/
theorem Request.work_refused {r : Request} (h : r.cardNumbers ≠ []) {s : State} (hs : s.store.state = .ready) :
    RefusalKeeps s r.cardNumbers (s.watchRecorded r.cardNumbers) (r.work s) := by
  obtain ⟨rest, hrest, hkeeps⟩ := Request.rest_refused h
  have hflags := s.compareAll_flags r.cardNumbers
  rw [hrest]
  rcases cardFront_cases r.cardNumbers rest hs with ⟨h1, e⟩ | ⟨h1, ⟨n, hn, h2⟩, e⟩ | ⟨h1, h2, h3, e⟩ | ⟨h1, e⟩
  · rw [e, State.watchRecorded, if_neg (by simp [h1])]
    exact .refuse nofun
  · rw [e, State.watchRecorded, if_neg fun hc => absurd (hc.2 n hn) (by simp [h2])]
    exact .refuse nofun
  · rw [e, State.watchRecorded, if_pos ⟨h1, h2⟩]
    exact .refuse nofun
  · rw [e, State.watchRecorded, if_pos ⟨h1.set, h1.valid⟩]
    exact hkeeps s _ hflags.lookup hflags.today

/-- Settles O17. -/
theorem refusedCardRequestChangesNothing : Obligations.RefusedCardRequestChangesNothing := by
  intro s f r hn hp
  refine ⟨hp.exec_card hn, fun hok hpartial => ?_⟩
  rcases Request.work_refused hn hp.ready with h | h | ⟨hstate, hbody⟩
  · exact absurd h hok
  · exact absurd h hpartial
  refine ⟨hstate, ?_, fun hi => ?_, fun hi => ?_⟩
  · rw [hstate]
    unfold State.watchRecorded
    split
    · exact s.compareAll_flags _
    · rfl
  · rcases hbody with ⟨-, hb⟩ | ⟨n, -, slot, c, -, he⟩
    · exact hb
    · exact absurd (by rw [he]; rfl) hi
  · rcases hbody with ⟨hne, -⟩ | ⟨n, hm, slot, c, hl, he⟩
    · exact absurd hi hne
    · exact ⟨n, hm, slot, c, hl, by rw [he]; rfl⟩

/-! ## FORMAT (R182) -/

/-- Settles O57. -/
theorem formatWritesStore : Obligations.FormatWritesStore := by
  intro s f hc hf hh hs
  have hx : exec .format s = .next ((formatUnit s).2.completeRequest f (formatUnit s).1) :=
    s.exec_row_held (r := .format) hc hh hf nofun nofun
  have hw : formatUnit s = (⟨.ok, []⟩, if s.store.parking then s.formatted else s.formatted.becomeReady) := by
    simp [formatUnit, hs]
  have hmer : ∀ i, s.formatted.merchant i = if i = 0 then Merchant.operator else Merchant.unlisted := fun i => by
    by_cases hi : i = 0
    · simp [State.merchant, State.formatted, tableGet, tableFind, hi]
    · simp [State.merchant, State.formatted, tableGet, tableFind, hi, Ne.symm hi]
  rw [hw] at hx
  refine ⟨_, hx, ?_⟩
  cases hpark : s.store.parking with
  | true => exact ⟨rfl, rfl, hmer, fun _ => rfl, rfl, rfl, rfl, rfl, rfl, rfl, rfl, nofun, fun _ => ⟨hs, rfl⟩, rfl, rfl, rfl,
      rfl, rfl, rfl⟩
  | false => exact ⟨rfl, rfl, hmer, fun _ => rfl, rfl, rfl, rfl, rfl, rfl, rfl, rfl, fun _ => ⟨rfl, rfl⟩, nofun, rfl, rfl, rfl,
      rfl, rfl, rfl⟩

end Sys2Proof.Machine

namespace Sys2Proof.Machine

/-! ## The end of a hold (R10, R17, R58) -/

/-- A lot is expired when the clock is SET and its expiry day lies before today (R20). -/
theorem State.keyExpired_today (s : State) (k : LotKey) :
    keyExpired s.today k = (s.clock.isSet && k.expiry.any (fun d => d < s.clock.day)) := by
  unfold keyExpired State.today
  cases s.clock.isSet <;> cases k.expiry <;> rfl

/-- The closing check moves neither value total. -/
theorem State.closingCheck_totals (s : State) (slot : Nat) (c : Card) :
    (s.closingCheck slot c).cards.paidOutstanding = s.cards.paidOutstanding ∧
    (s.closingCheck slot c).cards.promoOutstanding = s.cards.promoOutstanding := by
  unfold State.closingCheck
  split
  · split <;> exact ⟨rfl, rfl⟩
  · exact ⟨rfl, rfl⟩

@[simp] theorem State.closingCheck_link (s : State) (slot : Nat) (c : Card) : (s.closingCheck slot c).link = s.link := by
  rw [s.closingCheck_cards]
@[simp] theorem State.closingCheck_merchants (s : State) (slot : Nat) (c : Card) :
    (s.closingCheck slot c).merchants = s.merchants := by
  rw [s.closingCheck_cards]
@[simp] theorem State.closingCheck_hold (s : State) (slot : Nat) (c : Card) : (s.closingCheck slot c).hold = s.hold := by
  rw [s.closingCheck_cards]

/-- What the closing check leaves of a card: nothing when it retires it, else the card, ACTIVE when it was CLOSING (R17). -/
abbrev closedCard (c : Card) : Option Card :=
  if c.state = .closing ∧ c.openHolds = 0 then
    (if lotsValue c.lots = 0 then none else some { c with state := .active })
  else some c

theorem State.putCard_cardAt (s : State) (slot j : Nat) (c : Card) :
    (s.putCard slot c).cardAt j = if j = slot then some c else s.cardAt j := by
  split
  · next e => subst e; exact tableFind_insert_self _ _ _
  · next e => exact tableFind_insert_ne _ _ e

theorem State.retireCard_cardAt {s : State} (h : tableWf s.cards.slots) (slot n j : Nat) :
    (s.retireCard slot n).cardAt j = if j = slot then none else s.cardAt j := by
  split
  · next e => subst e; exact tableFind_erase_self _ _ h
  · next e => exact tableFind_erase_ne _ e

theorem State.closingCheck_cardAt {s : State} (h : tableWf s.cards.slots) (slot j : Nat) (c : Card) :
    (s.closingCheck slot c).cardAt j = if j = slot then closedCard c else s.cardAt j := by
  unfold State.closingCheck closedCard
  split
  · split
    · exact State.retireCard_cardAt h slot c.number j
    · exact s.putCard_cardAt slot j _
  · exact s.putCard_cardAt slot j c

/-- The card that the end of a hold leaves, before the closing check (R58). -/
abbrev endedCard (s : State) (h : Hold) (taken : Nat) (c : Card) : Card :=
  { c with
    lots := endLots s.today (splitParts taken h.parts) c.lots
    openHolds := c.openHolds - 1
    lastActivity := if taken = 0 then c.lastActivity else s.clock.day }

/-- The state in which the end of a hold has made its postings. -/
abbrev endPosted (s : State) (h : Hold) (taken : Nat) (c : Card) : State :=
  s.postAll (endPostings s.today (splitParts taken h.parts) c.lots)

/-- The end of a hold, where its card stands: postings, closing check, the entry freed, the merchant's count lowered. -/
theorem State.endHold_found {s : State} {h : Hold} {c : Card} (hc : s.cardAt h.slot = some c) (taken : Nat) :
    s.endHold h taken = ({ (endPosted s h taken c).closingCheck h.slot (endedCard s h taken c) with
      hold := s.hold.freeHold h } : State).onMerchant h.merchant (fun m => { m with openHolds := m.openHolds - 1 }) := by
  simp [State.endHold, State.endOnCard, hc]

theorem State.endHold_hold (s : State) (h : Hold) (taken : Nat) : (s.endHold h taken).hold = s.hold.freeHold h := by
  unfold State.endHold State.endOnCard
  cases s.cardAt h.slot <;> simp

theorem State.endHold_cards {s : State} {h : Hold} {c : Card} (hc : s.cardAt h.slot = some c) (taken : Nat) :
    (s.endHold h taken).cards = ((endPosted s h taken c).closingCheck h.slot (endedCard s h taken c)).cards := by
  rw [State.endHold_found hc]
  rfl

theorem State.endHold_cardAt {s : State} {h : Hold} {c : Card} (hw : tableWf s.cards.slots) (hc : s.cardAt h.slot = some c)
    (taken j : Nat) : (s.endHold h taken).cardAt j = if j = h.slot then closedCard (endedCard s h taken c) else s.cardAt j := by
  have e : (s.endHold h taken).cardAt j = ((endPosted s h taken c).closingCheck h.slot (endedCard s h taken c)).cardAt j :=
    congrArg (fun x : CardTable => tableFind x.slots j) (State.endHold_cards hc taken)
  rw [e, State.closingCheck_cardAt (by simpa using hw), State.postAll_cardAt]

theorem State.endHold_merchant {s : State} {h : Hold} {c : Card} (hw : tableWfD Merchant.unlisted s.merchants)
    (hc : s.cardAt h.slot = some c) (taken i : Nat) : (s.endHold h taken).merchant i =
      if i = h.merchant then { (endPosted s h taken c).merchant i with
        openHolds := ((endPosted s h taken c).merchant i).openHolds - 1 } else (endPosted s h taken c).merchant i := by
  have e : ∀ j, ({ (endPosted s h taken c).closingCheck h.slot (endedCard s h taken c) with
      hold := s.hold.freeHold h } : State).merchant j = (endPosted s h taken c).merchant j := fun j => by
    simp [State.merchant]
  rw [State.endHold_found hc, State.onMerchant_merchant (by simpa using (s.postAll_kept _ hw).1.1)]
  split
  · next hi => rw [e, hi]
  · exact e i

/-- The postings of the expiry of what an expired lot has, or gets back. -/
theorem expiryPostings_if (today : Option Nat) (k : LotKey) (n : Nat) :
    expiryPostings k (if keyExpired today k then n else 0) = if keyExpired today k then expiryPostings k n else [] := by
  split <;> rfl

/-- Settles O29, field by field of the state that `endHold_found` gives. -/
theorem endOfHoldSettlesCard : Obligations.EndOfHoldSettlesCard := by
  intro s h taken c ht hc t lots card out expired spent w
  have hexp : ∀ k n, (if keyExpired s.today k then expiryPostings k n else []) = expired k n := fun k n => by
    have hout : keyExpired s.today k = out k := s.keyExpired_today k
    rw [hout]
    by_cases hn : n = 0
    · simp [expired, expiryPostings, hn]
    · obtain ⟨kind, sp, ex⟩ := k
      cases hk : out ⟨kind, sp, ex⟩ <;> cases kind <;> simp [expired, expiryPostings, hn, hk]
  have hspent : ∀ k n, takenPostings k n = spent k n := fun k n => by
    obtain ⟨kind, sp, ex⟩ := k
    cases kind <;> rfl
  have hpost : endPosted s h taken c = w := by
    refine congrArg s.postAll ?_
    unfold endPostings lotsPostings
    congr 1
    · exact congrArg (c.lots.flatMap ·) (funext fun l => hexp l.key l.available)
    · exact congrArg ((splitParts taken h.parts).flatMap ·) (funext fun p => by
        rw [PartEnd.postings, PartEnd.expired, expiryPostings_if, hexp, hspent])
  have hcards : t.cards = (w.closingCheck h.slot card).cards := hpost ▸ State.endHold_cards hc taken
  have htot := w.closingCheck_totals h.slot card
  have hmer : ∀ i, t.merchant i =
      if i = h.merchant then { w.merchant i with openHolds := (w.merchant i).openHolds - 1 } else w.merchant i := fun i =>
    hpost ▸ State.endHold_merchant ht.merchants hc taken i
  have hcard : ∀ j, t.cardAt j = if j = h.slot then closedCard card else s.cardAt j := State.endHold_cardAt ht.slots hc taken
  have hhold : t.hold = s.hold.freeHold h := s.endHold_hold h taken
  refine ⟨s.endHold_only h taken, by rw [hcards]; exact htot.1, by rw [hcards]; exact htot.2, ?_, hmer, ?_,
    by rw [hhold]; rfl, ?_, ?_, fun j hj => ?_⟩
  · rw [← hpost, show t = _ from State.endHold_found hc taken]
    simp
  · rw [hhold, HoldTable.freeHold]
    congr 1
    cases h.basket with
    | none => rfl
    | some n => exact List.filter_congr (fun b _ => by cases b.members <;> simp)
  · rw [hmer, if_pos rfl]
    exact congrArg (· - 1) ((s.postAll_kept _ ht.merchants).2 h.merchant).1
  · rw [hcard, if_pos rfl]
  · rw [hcard, if_neg hj]

end Sys2Proof.Machine

namespace Sys2Proof.Machine

/-! ## What a request can do

Each unit is read once: refused, or a read, it leaves the state; accepted, it has passed its tests and leaves the state named. -/

/-- The state in which a card's lazy expiry is posted (R22). -/
abbrev State.expiryPosted (s : State) (c : Card) : State := s.postAll (lotsPostings s.today c.lots)

/-- The card that a credit leaves (R6, R33, R87). -/
abbrev creditedCard (s : State) (c : Card) (key : LotKey) (a : Nat) : Card :=
  { c with lots := creditLots key a (expireLots s.today c.lots), lastActivity := s.clock.day }

/-- The hold that an AUTHORIZE places (R50, R55, R56). -/
abbrev newHold (s : State) (slot m t a : Nat) (c : Card) (minutes basket : Option Nat) : Hold :=
  { number := s.hold.nextHold, state := .opened, slot := slot, merchant := m, terminal := t, amount := a
    parts := partsOf a (expireLots s.today c.lots)
    minutes := if basket.isSome then none else some (minutesApplied s.cfg.holdMinutes minutes), basket := basket }

/-- The state after an accepted AUTHORIZE (R57). -/
abbrev State.authorized (s : State) (slot m a : Nat) (c : Card) (h : Hold) : State :=
  { ((s.expiryPosted c).putCard slot { c with
        lots := reserveLots a (expireLots s.today c.lots), openHolds := c.openHolds + 1 }).onMerchant m
      (fun r => { r with openHolds := r.openHolds + 1 }) with hold := s.hold.addHold h }

/-- What the work of a request can leave of the state it goes to work on. -/
inductive Effect (s : State) : State → Prop where
  | nothing : Effect s s
  | issued {n m p : Nat} {q : Option PromoIssue} (ready : s.store.state = .ready)
      (valid : validNumber n = true) (range : issueInRange s.clock.day m p q = true)
      (active : (s.merchant m).state = .active) (sponsor : ∀ x, q = some x → (s.merchant x.sponsor).state = .active)
      (new : tableFind s.cards.directory n = none) (slot : tableLowestFree s.cards.slots 0 < Config.cardSlots)
      (limit : p + promoAmount q ≤ s.cfg.cardLimit) :
      Effect s ((s.insertCard (tableLowestFree s.cards.slots 0) (issuedCard s n p q)).postAll (issuePostings m p q))
  | loaded {n m a slot : Nat} {q : Option PromoLoad} {c : Card} (ready : s.store.state = .ready)
      (range : loadInRange s.clock.day m a q = true) (active : (s.merchant m).state = .active)
      (sponsor : ∀ x, q = some x → (s.merchant x.sponsor).state = .active) (found : s.lookup n = some (slot, c))
      (limit : lotsValue (expireLots s.today c.lots) + a ≤ s.cfg.cardLimit)
      (room : lotsFull (loadKey s.cfg.paidExpiryDays s.clock.day q) (expireLots s.today c.lots) = false) :
      Effect s (((s.expiryPosted c).putCard slot
        (creditedCard s c (loadKey s.cfg.paidExpiryDays s.clock.day q) a)).postAll (loadPostings m a q))
  | refunded {n m a slot : Nat} {c : Card} (ready : s.store.state = .ready) (index : m < Config.merchants)
      (amount : amountInRange a = true) (listed : (s.merchant m).state ≠ .unlisted)
      (found : s.lookup n = some (slot, c)) (limit : lotsValue (expireLots s.today c.lots) + a ≤ s.cfg.cardLimit)
      (room : lotsFull (paidKey s.cfg.paidExpiryDays s.clock.day) (expireLots s.today c.lots) = false) :
      Effect s (((s.expiryPosted c).putCard slot
        (creditedCard s c (paidKey s.cfg.paidExpiryDays s.clock.day) a)).postAll [.refunded m a, .paidUp a])
  | restated {n slot : Nat} {c : Card} (st : CardState) (ready : s.store.state = .ready)
      (found : s.lookup n = some (slot, c)) :
      Effect s ((s.expiryPosted c).putCard slot { c with lots := expireLots s.today c.lots, state := st })
  | retired {n slot : Nat} {c : Card} (ready : s.store.state = .ready) (found : s.lookup n = some (slot, c))
      (spent : ∀ l ∈ expireLots s.today c.lots, l.available = 0) (free : c.openHolds = 0) :
      Effect s ((s.expiryPosted c).retireCard slot n)
  | replaced {o n slot : Nat} {c : Card} (ready : s.store.state = .ready) (found : s.lookup o = some (slot, c))
      (valid : validNumber n = true) (new : tableFind s.cards.directory n = none) (free : c.openHolds = 0) :
      Effect s ((s.expiryPosted c).renameCard slot o
        { c with lots := expireLots s.today c.lots, number := n, state := .active })
  | watchWritten {e n : Nat} (a : WatchAction) (entry : e < Config.watchEntries) :
      Effect s { s with watch := tableInsert s.watch (s.watchTarget e n) ⟨n, a⟩ }
  | watchCleared (e : Nat) : Effect s { s with watch := tableErase s.watch e }
  | authorized {n m t a slot : Nat} {c : Card} {minutes basket : Option Nat} (ready : s.store.state = .ready)
      (index : m < Config.merchants) (active : (s.merchant m).state = .active) (found : s.lookup n = some (slot, c))
      (places : s.hold.holds.length < Config.holdEntries) (few : c.openHolds < Config.holdsPerCard)
      (join : ∀ k, basket = some k → ∃ b, s.hold.openBasket k = some b ∧ b.merchant = m ∧
        b.members.length < Config.basketMembers)
      (positive : 0 < a) (covered : a ≤ lotsAvailable (expireLots s.today c.lots)) :
      Effect s (s.authorized slot m a c (newHold s slot m t a c minutes basket))
  | captured {n taken : Nat} {h : Hold} (ready : s.store.state = .ready) (found : s.hold.openHold n = some h) :
      Effect s ((s.endHold h taken).postAll (capturePostings h.merchant taken))
  | sold {n m a slot : Nat} {c : Card} (ready : s.store.state = .ready) (index : m < Config.merchants)
      (active : (s.merchant m).state = .active) (found : s.lookup n = some (slot, c))
      (covered : a ≤ lotsAvailable (expireLots s.today c.lots)) :
      Effect s (((s.expiryPosted c).putCard slot { c with
          lots := dropEmpty (drawLots a (expireLots s.today c.lots)), lastActivity := s.clock.day }).postAll
        ((saleParts a (expireLots s.today c.lots)).flatMap (PartEnd.postings s.today) ++ capturePostings m a))
  | basketOpened {m t k : Nat} (ready : s.store.state = .ready) (index : m < Config.merchants)
      (places : s.hold.baskets.length < Config.basketEntries) :
      Effect s { s with hold := { s.hold with
        baskets := s.hold.baskets ++ [⟨s.hold.nextBasket, .opened, m, t, [], k⟩]
        basketSerial := bumpSerial s.hold.nextBasket } }
  | basketEnded {n taken : Nat} {b : Basket} {ends : List (Hold × Nat)} (ready : s.store.state = .ready)
      (found : s.hold.openBasket n = some b) (members : ends.map (·.1) = s.hold.memberHolds b.members)
      (covered : taken ≤ amountsOf (s.hold.memberHolds b.members)) :
      Effect s (((s.endHolds ends).freeBasket n).postAll (capturePostings b.merchant taken))
  | terminalCleared {m t : Nat} (ready : s.store.state = .ready) :
      Effect s ((s.clearBaskets m t).endHolds ((s.clearBaskets m t).clearedHolds m t))
  | merchantListed {i : Nat} {st : MerchantState} {sc al pr : Nat} (ready : s.store.state = .ready)
      (index : i < Config.merchants) (listed : st ≠ .unlisted) (operator : i = 0 → st = .active) :
      Effect s (s.setMerchant i (if (s.merchant i).state = .unlisted then listedMerchant i st sc al pr
        else updatedMerchant i st sc al pr (s.merchant i)))
  | merchantRemoved {i : Nat} (ready : s.store.state = .ready) (index : i < Config.merchants) (other : i ≠ 0)
      (holds : (s.merchant i).openHolds = 0) (position : (s.merchant i).position = Position.zero)
      (sponsored : (s.merchant i).sponsored = 0) : Effect s (s.setMerchant i Merchant.unlisted)
  | staged {n : Nat} (copy : Option Schedule) (number : n < Config.schedules) : Effect s (s.stageSchedule n copy)
  | cutRequested : Effect s s.requestCut
  | periodReleased (flag : CutPending) :
      Effect s { s with period := { s.period with snapshot := Snapshot.blank, cutPending := flag } }
  | runStarted : Effect s s.startRun
  | queueRead : Effect s s.readQueue
  | runAborted : Effect s { s with
      payout := { s.payout with run := Run.idle, queue := [] }
      period := { s.period with snapshot := { s.period.snapshot with state := .closed } } }
  | flagged (b : Bool) : Effect s { s with payout := { s.payout with holdFlag := b } }
  | clockSet (day second : Nat) : Effect s { s.takeRoll with
      clock := { s.takeRoll.clock with day := day, second := second, isSet := true, divider := 0 } }
  | routed (e : EventSource) (d : Destination) :
      Effect s { s with routes := s.routes.set e d, storedRoutes := s.storedRoutes.set e d }
  | passStarted : Effect s s.startPass
  | causeRead : Effect s { s with link := { s.link with resetCause := .none } }
  | conditionsCleared (set : BitVec 16) : Effect s (s.clearConditions set)
  | configured (f : ConfigFields) : Effect s { s with
      settings := s.settings.after f
      clock := s.clock.afterConfig s.settings.clockInternal (s.settings.after f).clockInternal }
  | formatted (unformatted : s.store.state = .unformatted) : Effect s s.formatted
  | formattedReady (unformatted : s.store.state = .unformatted) : Effect s s.formatted.becomeReady

/-- A test that refuses leaves the state; passed, the rest decides. -/
theorem Effect.test {s : State} {c : Prop} [Decidable c] {r : Reply} {x : Reply × State}
    (h : ¬ c → Effect s x.2) : Effect s (if c then (r, s) else x).2 := by
  split
  · exact .nothing
  · next hc => exact h hc

theorem Effect.whenReady {s : State} {work : State → Reply × State} (h : s.store.state = .ready → Effect s (work s).2) :
    Effect s (whenReady work s).2 := by
  unfold Machine.whenReady
  split
  · next hr => exact h hr
  · exact .nothing

theorem Effect.whenSet {s : State} {work : State → Reply × State} (h : s.store.state = .ready → Effect s (work s).2) :
    Effect s (whenSet work s).2 := by
  refine .whenReady fun hr => ?_
  split
  · exact h hr
  · exact .nothing

/-- Steps 8 and 9 of R25: the card found, or NO_CARD. -/
theorem Effect.withCard {s : State} {n : Nat} {rest : Nat → Card → State → Reply × State}
    (h : ∀ slot c, s.lookup n = some (slot, c) → Effect s (rest slot (c.expire s.today) (s.expiryPosted c)).2) :
    Effect s (withCard n s rest).2 := by
  cases hc : s.lookup n with
  | none => rw [withCard_absent _ hc]; exact .nothing
  | some x =>
    obtain ⟨slot, c⟩ := x
    rw [withCard_found _ hc]
    exact h slot c hc

/-- The front checks: refused, they leave the state but for watch matches; passed, the rest works on the state with the matches
recorded (R25, R29, R45). -/
theorem Effect.cardFront {s : State} {ns : List Nat} {rest : State → Reply × State}
    (h : ∀ w : State, w.store.state = .ready → (∀ n ∈ ns, validNumber n = true) → Effect w (rest w).2) :
    ∃ w, s.FlagsOnly w ∧ Effect w (cardFront ns rest s).2 := by
  by_cases hr : s.store.state = .ready
  · have hflags := s.compareAll_flags ns
    rcases cardFront_cases ns rest hr with ⟨-, e⟩ | ⟨-, -, e⟩ | ⟨-, -, -, e⟩ | ⟨hp, e⟩ <;> rw [e]
    · exact ⟨s, rfl, .nothing⟩
    · exact ⟨s, rfl, .nothing⟩
    · exact ⟨_, hflags, .nothing⟩
    · refine ⟨_, hflags, h _ ?_ hp.valid⟩
      rw [hflags.eq]
      exact hr
  · rw [Machine.cardFront, Machine.whenSet, whenReady_not _ hr]
    exact ⟨s, rfl, .nothing⟩

/-! ### Card-naming requests -/

theorem State.state_of_isActive {s : State} {i : Nat} (h : s.isActive i = true) : (s.merchant i).state = .active := by
  simpa [State.isActive] using h

theorem issueUnit_effect (n m p : Nat) (q : Option PromoIssue) (s : State) :
    ∃ w, s.FlagsOnly w ∧ Effect w (issueUnit n m p q s).2 := by
  refine Effect.cardFront fun w hr hv => .test fun h1 => .test fun h2 => .test fun h3 => .test fun h4 => .test fun h5 => ?_
  have h2 : w.isActive m = true ∧ ∀ x, q = some x → w.isActive x.sponsor = true := by
    cases q with
    | none => exact ⟨by simpa using h2, nofun⟩
    | some x =>
      have h2 : w.isActive m = true ∧ w.isActive x.sponsor = true := by simpa using h2
      exact ⟨h2.1, fun y hy => by obtain rfl := Option.some.inj hy; exact h2.2⟩
  exact .issued hr (hv n List.mem_cons_self) (by simpa using h1) (State.state_of_isActive h2.1)
    (fun x hx => State.state_of_isActive (h2.2 x hx)) (by simpa using h3) (by simpa using h4) (by simpa using h5)

theorem loadUnit_effect (n m a : Nat) (q : Option PromoLoad) (s : State) :
    ∃ w, s.FlagsOnly w ∧ Effect w (loadUnit n m a q s).2 := by
  refine Effect.cardFront fun w hr hv => .test fun h1 => .test fun h2 => .withCard fun slot c hc => ?_
  have h2 : w.isActive m = true ∧ ∀ x, q = some x → w.isActive x.sponsor = true := by
    cases q with
    | none => exact ⟨by simpa using h2, nofun⟩
    | some x =>
      have h2 : w.isActive m = true ∧ w.isActive x.sponsor = true := by simpa using h2
      exact ⟨h2.1, fun y hy => by obtain rfl := Option.some.inj hy; exact h2.2⟩
  split
  · exact .nothing
  · exact .nothing
  · refine .test fun h3 => .test fun h4 => ?_
    exact .loaded hr (by simpa using h1) (State.state_of_isActive h2.1)
      (fun x hx => State.state_of_isActive (h2.2 x hx)) hc (Nat.not_lt.mp h3) (Bool.eq_false_iff.mpr h4)

theorem inquireUnit_effect (n : Nat) (s : State) : ∃ w, s.FlagsOnly w ∧ Effect w (inquireUnit n s).2 :=
  Effect.cardFront fun _ hr _ => .withCard fun _ c hc => .restated c.state hr hc

theorem setCardState_effect (target : CardState) (n : Nat) (s : State) :
    ∃ w, s.FlagsOnly w ∧ Effect w (setCardState target n s).2 :=
  Effect.cardFront fun _ hr _ => .withCard fun _ _ hc => .test fun _ => .restated target hr hc

theorem closeUnit_effect (n : Nat) (s : State) : ∃ w, s.FlagsOnly w ∧ Effect w (closeUnit n s).2 := by
  refine Effect.cardFront fun w hr _ => .withCard fun slot c hc => .test fun _ => .test fun h2 => ?_
  split
  · next h3 => exact .retired hr hc (by simpa [Card.expire] using h2) h3
  · exact .restated .closing hr hc

theorem replaceUnit_effect (o n : Nat) (s : State) : ∃ w, s.FlagsOnly w ∧ Effect w (replaceUnit o n s).2 := by
  refine Effect.cardFront fun w hr hv => .withCard fun slot c hc => .test fun h1 => .test fun _ => .test fun h3 => ?_
  exact .replaced hr hc (hv n (by simp)) (by simpa using h1) (by simpa [Card.expire] using h3)

/-- What a purchase gets: at least one cent, and no more than the card has (R54). -/
theorem amountDecided_covered {available amount : Nat} {partialOk : Bool} {r : Result} {a : Nat} (hpos : 1 ≤ amount)
    (h : amountDecided available amount partialOk = some (r, a)) : 0 < a ∧ a ≤ available := by
  unfold amountDecided at h
  split at h
  · next hle =>
    obtain ⟨-, rfl⟩ := Prod.mk.inj (Option.some.inj h)
    exact ⟨hpos, hle⟩
  · split at h
    · next hp =>
      obtain ⟨-, rfl⟩ := Prod.mk.inj (Option.some.inj h)
      exact ⟨by simpa using (Bool.and_eq_true_iff.mp hp).1, Nat.le_refl _⟩
    · cases h

/-- The basket that an AUTHORIZE joins has passed its tests (R53, R79). -/
theorem basketRefusal_none {t : HoldTable} {m : Nat} {basket : Option Nat} (h : basketRefusal t m basket = none) :
    ∀ k, basket = some k → ∃ b, t.openBasket k = some b ∧ b.merchant = m ∧ b.members.length < Config.basketMembers := by
  rintro k rfl
  simp only [basketRefusal] at h
  split at h
  · cases h
  · next b hb =>
    split at h
    · cases h
    · next hm =>
      split at h
      · cases h
      · next hlen => exact ⟨b, hb, by simpa using hm, by simpa using hlen⟩

theorem purchaseInRange_iff {m t a p : Nat} : purchaseInRange m t a p = true ↔
    m < Config.merchants ∧ t ≤ 65535 ∧ (1 ≤ a ∧ a ≤ Config.amountMax) ∧ p ≤ 1 := by
  simp [purchaseInRange, indexInRange, amountInRange, and_assoc]

theorem authorizeUnit_effect (n m t a p : Nat) (minutes basket : Option Nat) (s : State) :
    ∃ w, s.FlagsOnly w ∧ Effect w (authorizeUnit n m t a p minutes basket s).2 := by
  refine Effect.cardFront fun w hr _ => .test fun h1 => .test fun h2 => .withCard fun slot c hc => ?_
  have hrange := purchaseInRange_iff.mp (show purchaseInRange m t a p = true by
    simp only [Bool.or_eq_true, not_or] at h1
    simpa using h1.1)
  split
  · exact .nothing
  · exact .nothing
  refine .test fun h3 => ?_
  have h3 : w.hold.holds.length < Config.holdEntries ∧ c.openHolds < Config.holdsPerCard := by
    rw [Bool.or_eq_true, not_or, decide_eq_true_eq, decide_eq_true_eq] at h3
    exact ⟨Nat.not_le.mp h3.1, Nat.not_le.mp h3.2⟩
  split
  · exact .nothing
  · next hb =>
    dsimp only
    split
    · exact .nothing
    · next hd =>
      obtain ⟨hpos, hcov⟩ := amountDecided_covered hrange.2.2.1.1 hd
      have he := Effect.authorized (s := w) (t := t) (minutes := minutes) hr hrange.1 (State.state_of_isActive (by simpa using h2))
        hc h3.1 h3.2 (basketRefusal_none hb) hpos hcov
      simpa [State.authorized, Card.expire] using he

theorem saleUnit_effect (n m t a p : Nat) (s : State) : ∃ w, s.FlagsOnly w ∧ Effect w (saleUnit n m t a p s).2 := by
  refine Effect.cardFront fun w hr _ => .test fun h1 => .test fun h2 => .withCard fun slot c hc => ?_
  have hrange := purchaseInRange_iff.mp (show purchaseInRange m t a p = true by simpa using h1)
  split
  · exact .nothing
  · exact .nothing
  dsimp only
  split
  · exact .nothing
  · next hd =>
    obtain ⟨hpos, hcov⟩ := amountDecided_covered hrange.2.2.1.1 hd
    exact .sold hr hrange.1 (State.state_of_isActive (by simpa using h2)) hc hcov

theorem refundUnit_effect (n m t a : Nat) (s : State) : ∃ w, s.FlagsOnly w ∧ Effect w (refundUnit n m t a s).2 := by
  refine Effect.cardFront fun w hr _ => .test fun h1 => .test fun h2 => .withCard fun slot c hc => .test fun _ =>
    .test fun _ => .test fun h5 => .test fun h6 => ?_
  have h1 : (m < Config.merchants ∧ t ≤ 65535) ∧ amountInRange a = true := by simpa [indexInRange] using h1
  exact .refunded hr h1.1.1 h1.2 h2 hc (Nat.not_lt.mp h5) (Bool.eq_false_iff.mpr h6)

/-! ### Holds and baskets -/

theorem captureUnit_effect (n a : Nat) (s : State) : Effect s (captureUnit n a s).2 := by
  refine .whenSet fun hr => .test fun _ => ?_
  split
  · exact .nothing
  · next h hh => exact .test fun _ => .test fun _ => .captured hr hh

theorem capturePostings_zero (m : Nat) : capturePostings m 0 = [] := rfl

theorem releaseUnit_effect (n : Nat) (s : State) : Effect s (releaseUnit n s).2 := by
  refine .whenSet fun hr => ?_
  split
  · exact .nothing
  · next h hh => exact .captured (taken := 0) hr hh

theorem basketOpenUnit_effect (m t : Nat) (minutes : Option Nat) (s : State) : Effect s (basketOpenUnit m t minutes s).2 := by
  refine .whenSet fun hr => .test fun h1 => .test fun _ => .test fun h3 => ?_
  have h1 : m < Config.merchants ∧ t ≤ 65535 := by simpa [indexInRange] using h1
  exact .basketOpened hr h1.1 (by simpa using h3)

theorem shares_holds (c : Nat) (holds : List Hold) : (shares c holds).map (·.1) = holds := by
  induction holds generalizing c with
  | nil => rfl
  | cons h rest ih => simp [shares, ih]

theorem openBasket_spec {t : HoldTable} {n : Nat} {b : Basket} (h : t.openBasket n = some b) :
    b ∈ t.baskets ∧ b.number = n ∧ b.state = .opened := by
  have hp := List.find?_some h
  simp only [Bool.and_eq_true, decide_eq_true_eq] at hp
  exact ⟨List.mem_of_find?_eq_some h, hp.1, hp.2⟩

theorem openHold_spec {t : HoldTable} {n : Nat} {h : Hold} (hf : t.openHold n = some h) :
    h ∈ t.holds ∧ h.number = n ∧ h.state = .opened := by
  have hp := List.find?_some hf
  simp only [Bool.and_eq_true, decide_eq_true_eq] at hp
  exact ⟨List.mem_of_find?_eq_some hf, hp.1, hp.2⟩

theorem holdEntry_spec {t : HoldTable} {n : Nat} {h : Hold} (hf : t.holdEntry n = some h) :
    h ∈ t.holds ∧ h.number = n :=
  ⟨List.mem_of_find?_eq_some hf, by simpa using List.find?_some hf⟩

theorem basketCaptureUnit_effect (n a : Nat) (s : State) : Effect s (basketCaptureUnit n a s).2 := by
  refine .whenSet fun hr => .test fun _ => ?_
  split
  · exact .nothing
  · next b hb =>
    refine .test fun h2 => .basketEnded hr hb (shares_holds _ _) ?_
    split
    · exact Nat.le_refl _
    · exact Nat.not_lt.mp h2

theorem releaseEnds_holds (s : State) (b : Basket) : (s.releaseEnds b).map (·.1) = s.hold.memberHolds b.members := by
  simp [State.releaseEnds, Function.comp_def]

theorem basketReleaseUnit_effect (n : Nat) (s : State) : Effect s (basketReleaseUnit n s).2 := by
  refine .whenSet fun hr => .test fun _ => ?_
  split
  · exact .nothing
  · next b hb =>
    have he := Effect.basketEnded (taken := 0) hr hb (releaseEnds_holds s b) (Nat.zero_le _)
    rw [capturePostings_zero, State.postAll_nil, ← (openBasket_spec hb).2.1] at he
    exact he

theorem terminalClearUnit_effect (m t : Nat) (s : State) : Effect s (terminalClearUnit m t s).2 :=
  .whenSet fun hr => .test fun _ => .terminalCleared hr

/-! ### Merchants and schedules -/

theorem namedState_listed {n : Nat} {st : MerchantState} (h : namedState n = some st) : st ≠ .unlisted := by
  unfold namedState at h
  split at h <;> cases h <;> exact nofun

theorem merchantSetUnit_effect (i st sc al pr : Nat) (s : State) : Effect s (merchantSetUnit i st sc al pr s).2 := by
  refine .whenReady fun hr => ?_
  split
  · exact .nothing
  · next x hx =>
    refine .test fun h1 => .test fun h2 => ?_
    have h1 : (i < Config.merchants ∧ sc < Config.schedules) ∧ al ≤ Config.allowanceMax := by simpa [indexInRange] using h1
    exact .merchantListed hr h1.1.1 (namedState_listed hx) (fun hi => by
      by_contra hc
      exact h2 ⟨hi, hc⟩)

theorem merchantRemoveUnit_effect (i : Nat) (s : State) : Effect s (merchantRemoveUnit i s).2 := by
  refine .whenReady fun hr => .test fun h1 => .test fun h2 => ?_
  have h1 : i < Config.merchants ∧ i ≠ 0 := by simpa [indexInRange] using h1
  simp only [not_or, not_not] at h2
  exact .merchantRemoved hr h1.1 h1.2 h2.1 h2.2.1 h2.2.2

theorem scheduleWriteUnit_effect (n : Nat) (c : Schedule) (s : State) : Effect s (scheduleWriteUnit n c s).2 := by
  refine .whenReady fun _ => .test fun h1 => ?_
  have h1 : n < Config.schedules ∧ c.inRange = true := by simpa using h1
  exact .staged (some c) h1.1

theorem scheduleClearUnit_effect (n : Nat) (s : State) : Effect s (scheduleClearUnit n s).2 :=
  .whenReady fun _ => .test fun h1 => .staged none (by simpa using h1)

/-! ### The other requests -/

theorem formatUnit_effect (s : State) : Effect s (formatUnit s).2 := by
  unfold formatUnit
  split
  · next hu =>
    dsimp only
    split
    · exact .formatted hu
    · exact .formattedReady hu
  · exact .nothing
  · exact .nothing
  · exact .nothing

theorem watchWriteUnit_effect (e n a : Nat) (s : State) : Effect s (watchWriteUnit e n a s).2 := by
  refine .whenReady fun _ => .test fun _ => .test fun h2 => ?_
  split
  · exact .nothing
  · next x _ => exact .watchWritten x (by simpa using h2)

theorem setClockUnit_effect (d n : Nat) (s : State) : Effect s (setClockUnit d n s).2 :=
  .whenReady fun _ => .test fun _ => .test fun _ => .clockSet d n

theorem routeSetUnit_effect (p : Option (Nat × Nat)) (s : State) : Effect s (routeSetUnit p s).2 := by
  refine .whenReady fun _ => ?_
  split
  · exact .nothing
  · split
    · exact .routed _ _
    · exact .nothing

/-- What the work of a request does, to the state or to the state with watch matches recorded. -/
theorem Request.work_effect (r : Request) (s : State) : ∃ w, s.FlagsOnly w ∧ Effect w (r.work s).2 := by
  have plain : Effect s (r.work s).2 → ∃ w, s.FlagsOnly w ∧ Effect w (r.work s).2 := fun h => ⟨s, rfl, h⟩
  cases r
  case issue => exact issueUnit_effect ..
  case load => exact loadUnit_effect ..
  case inquire => exact inquireUnit_effect ..
  case suspend => exact setCardState_effect ..
  case resume => exact setCardState_effect ..
  case close => exact closeUnit_effect ..
  case replace => exact replaceUnit_effect ..
  case authorize => exact authorizeUnit_effect ..
  case sale => exact saleUnit_effect ..
  case refund => exact refundUnit_effect ..
  all_goals refine plain ?_
  case watchWrite => exact watchWriteUnit_effect ..
  case watchClear e => exact .whenReady fun _ => .test fun _ => .watchCleared e
  case watchList => exact .whenReady fun _ => .test fun _ => .nothing
  case capture => exact captureUnit_effect ..
  case release => exact releaseUnit_effect ..
  case basketOpen => exact basketOpenUnit_effect ..
  case basketCapture => exact basketCaptureUnit_effect ..
  case basketRelease => exact basketReleaseUnit_effect ..
  case terminalClear => exact terminalClearUnit_effect ..
  case merchantSet => exact merchantSetUnit_effect ..
  case merchantRemove => exact merchantRemoveUnit_effect ..
  case merchantRead => exact .whenReady fun _ => .test fun _ => .nothing
  case closedRead => exact .whenReady fun _ => .test fun _ => .test fun _ => .nothing
  case scheduleWrite => exact scheduleWriteUnit_effect ..
  case scheduleClear => exact scheduleClearUnit_effect ..
  case scheduleRead => exact .whenReady fun _ => .test fun _ => .nothing
  case periodCut => exact .whenSet fun _ => .cutRequested
  case periodStatus => exact Effect.whenReady (work := fun s => (⟨.ok, s.periodBody⟩, s)) fun _ => .nothing
  case periodRelease => exact .whenReady fun _ => .test fun _ => .periodReleased _
  case payoutStart => exact .whenReady fun _ => .test fun _ => .runStarted
  case payoutRead => exact .whenReady fun _ => .queueRead
  case payoutAbort => exact .whenReady fun _ => .test fun _ => .runAborted
  case walkersHold => exact .whenReady fun _ => .flagged true
  case walkersResume => exact .whenReady fun _ => .flagged false
  case setClock => exact setClockUnit_effect ..
  case routeSet => exact routeSetUnit_effect ..
  case sweepStart => exact .whenSet fun _ => .passStarted
  case status => exact .causeRead
  case statusClear => exact .whenReady fun _ => .conditionsCleared _
  case config f => exact .whenReady fun _ => .test fun _ => .configured f
  case configRead =>
    show Effect s (configReadUnit s).2
    unfold configReadUnit
    split <;> exact .nothing
  case format => exact formatUnit_effect s

end Sys2Proof.Machine

namespace Sys2Proof.Machine

/-! ## What a step can do -/

/-- What the service of a frame leaves: the work of the request it carries, or a refusal (R26, R187). -/
def WorkOf (f : Frame) (s : State) (w : Reply × State) : Prop :=
  w.2 = s ∨ ∃ r : Request, f.request = some r ∧ w = r.work s

/-- The state that one command leaves, with what must stand for it. -/
inductive Event (s : State) : State → Prop where
  | nothing : Event s s
  | completed {f : Frame} {w : Reply × State} (current : s.engine.current = some f)
      (holds : s.arbiter.holder = some .requestEngine) (work : WorkOf f s w) : Event s (w.2.completeRequest f w.1)
  | served {f : Frame} {rest : List Frame} {w : Reply × State} (next : s.Next f rest) (free : s.frameNeedsGrant f = false)
      (work : WorkOf f (s.taken rest) w) : Event s (w.2.completeTaken f w.1)
  | put (bytes : List Byte) : Event s (s.put bytes)
  | take (clocked : Nat) : Event s (s.take clocked)
  | linkReset : Event s s.resetLink
  | linkError : Event s (s.raise .linkError)
  | cutEdge : Event s s.requestCut.arbitrate
  | edge : Event s s.edge
  | divider : Event s s.dividerTick
  | fallBack : Event s s.fallBack
  | tick : Event s s.takeTick
  | roll : Event s s.takeRoll
  | lapseWork {n : Nat} {rest : List LapseItem} (holds : s.arbiter.holder = some .lapseWork)
      (oldest : s.hold.lapse = .hold n :: rest) : Event s (((s.lapseHold n).dropLapse).completeUnit false)
  | emptyBasket {n : Nat} {rest : List LapseItem} (holds : s.arbiter.holder = some .lapseWork)
      (oldest : s.hold.lapse = .basket n :: rest) : Event s (((s.lapseBasket n).dropLapse).completeUnit false)
  | cut (holds : s.arbiter.holder = some .periodController) : Event s (s.cutWork.completeUnit false)
  | walk (holds : s.arbiter.holder = some .payoutWalker) : Event s (s.walkUnit.completeUnit s.walkUnit.walkerKeeps)
  | trailer (due : s.trailerDue = true) : Event s s.appendTrailer.arbitrate
  | sweep (holds : s.arbiter.holder = some .expirySweep) : Event s (s.sweepUnit.completeUnit (s.sweepKeeps s.sweepUnit))
  | deviceReset (kind : ResetKind) (reads : Bool) : Event s (s.deviceReset kind reads)
  | mounted (mounting : s.store.state = .mounting) : Event s s.completeMount.arbitrate
  | fall : Event s (s.setPowerGood false).startPark
  | park (free : s.arbiter.holder = none) : Event s s.parked
  | rise : Event s (s.setPowerGood true)

theorem outcome_next_inj {σ φ ρ : Type} {s t : σ} (h : (Host.Outcome.next s : Host.Outcome σ φ ρ) = .next t) : s = t := by
  injection h

/-- A frame's service, by whatever unit refuses it or does the work of the request that the frame carries. -/
theorem Event.serve {s t : State} {takes : Frame → Bool} {work : Frame → State → Reply × State}
    (hw : ∀ f u, WorkOf f u (work f u)) (h : s.serve takes work = t) : Event s t := by
  subst h
  rcases s.serve_cases takes work with ⟨f, hc, hh, -, e⟩ | ⟨f, rest, hn, -, hg, e⟩ | e <;> rw [e]
  · exact .completed hc hh (hw f s)
  · exact .served hn hg (hw f _)
  · exact .nothing

/-- The row of a request. -/
theorem Event.row (r : Request) {s t : State} (h : exec r.row s = .next t) : Event s t := by
  obtain ⟨takes, unit, he, -, hu, -⟩ := r.exec_row s
  refine .serve (fun f u => ?_) (outcome_next_inj (he.symm.trans h))
  cases hf : f.request with
  | none => rw [wellFormedOr_none _ _ hf]; exact .inl rfl
  | some q =>
    rw [wellFormedOr_some _ _ hf]
    rcases hu q u with e | e <;> rw [e]
    · exact .inr ⟨q, hf, rfl⟩
    · exact .inl rfl

/-- A command that acts when `b` holds, and otherwise changes nothing. -/
theorem Event.when {s t u : State} {b : Prop} [Decidable b] (hu : b → Event s u)
    (h : (Host.Outcome.next (if b then u else s) : Host.Outcome State Fault Refusal) = .next t) : Event s t := by
  obtain rfl := outcome_next_inj h
  split
  · next hb => exact hu hb
  · exact .nothing

/-- Each command is one of the events. -/
theorem exec_event {c : Instr} {s t : State} (h : exec c s = .next t) : Event s t := by
  cases c
  case put bytes => obtain rfl := outcome_next_inj h; exact .put bytes
  case take n => obtain rfl := outcome_next_inj h; exact .take n
  case linkReset => obtain rfl := outcome_next_inj h; exact .linkReset
  case transactionCodeUnknown code rest =>
    obtain rfl := outcome_next_inj h
    split
    · exact .nothing
    · exact .linkError
  case unknownRequestKind =>
    exact .serve (work := fun _ u => (refuse .badRequest, u)) (fun _ _ => .inl rfl) (outcome_next_inj h)
  case issue => exact .row (.issue 0 0 0 none) h
  case load => exact .row (.load 0 0 0 none) h
  case inquire => exact .row (.inquire 0) h
  case suspend => exact .row (.suspend 0) h
  case resume => exact .row (.resume 0) h
  case close => exact .row (.close 0) h
  case replace => exact .row (.replace 0 0) h
  case watchSetWrite => exact .row (.watchWrite 0 0 0) h
  case watchSetClear => exact .row (.watchClear 0) h
  case watchSetList => exact .row (.watchList 0) h
  case authorize => exact .row (.authorize 0 0 0 0 0 none none) h
  case capture => exact .row (.capture 0 0) h
  case release => exact .row (.release 0) h
  case sale => exact .row (.sale 0 0 0 0 0) h
  case basketOpen => exact .row (.basketOpen 0 0 none) h
  case basketCapture => exact .row (.basketCapture 0 0) h
  case basketRelease => exact .row (.basketRelease 0) h
  case refund => exact .row (.refund 0 0 0 0) h
  case terminalClear => exact .row (.terminalClear 0 0) h
  case merchantSet => exact .row (.merchantSet 0 0 0 0 0) h
  case merchantRemove => exact .row (.merchantRemove 0) h
  case merchantRead => exact .row (.merchantRead 0) h
  case closedRead => exact .row (.closedRead 0) h
  case scheduleStageWrite => exact .row (.scheduleWrite 0 Schedule.zero) h
  case scheduleStageClear => exact .row (.scheduleClear 0) h
  case scheduleRead => exact .row (.scheduleRead 0) h
  case periodCut => exact .row .periodCut h
  case periodStatus => exact .row .periodStatus h
  case periodRelease => exact .row .periodRelease h
  case payoutStart => exact .row .payoutStart h
  case payoutRead => exact .row .payoutRead h
  case payoutAbort => exact .row .payoutAbort h
  case walkersHold => exact .row .walkersHold h
  case walkersResume => exact .row .walkersResume h
  case setClock => exact .row (.setClock 0 0) h
  case routeSet => exact .row (.routeSet none) h
  case sweepStart => exact .row .sweepStart h
  case status => exact .row .status h
  case statusClear => exact .row (.statusClear 0) h
  case config => exact .row (.config ⟨none, none, none, none, none, none, none, none, none, none, none, none⟩) h
  case configRead => exact .row .configRead h
  case format => exact .row .format h
  case cutNEdge => exact .when (fun _ => .cutEdge) h
  case timerefEdge => exact .when (fun _ => .edge) h
  case dividerSecond => exact .when (fun _ => .divider) h
  case clockFallback => exact .when (fun _ => .fallBack) h
  case minuteTick => obtain rfl := outcome_next_inj h; exact .tick
  case holdLapse => exact .when (fun _ => .tick) h
  case basketLapse => exact .when (fun _ => .tick) h
  case dayRoll => obtain rfl := outcome_next_inj h; exact .roll
  case periodCounterExpiry => exact .when (fun _ => .roll) h
  case lapseWork =>
    obtain rfl := outcome_next_inj h
    split
    · next hh hl => exact .lapseWork hh hl
    · exact .nothing
  case emptyBasketLapse =>
    obtain rfl := outcome_next_inj h
    split
    · next hh hl => exact .emptyBasket hh hl
    · exact .nothing
  case cut => exact .when .cut h
  case walkUnit => exact .when .walk h
  case trailerAppend => exact .when .trailer h
  case sweepUnit => exact .when .sweep h
  case deviceReset kind reads => obtain rfl := outcome_next_inj h; exact .deviceReset kind reads
  case mountComplete => exact .when .mounted h
  case powerGoodFall => obtain rfl := outcome_next_inj h; exact .fall
  case park => exact .when (fun hp => .park hp.2) h
  case powerGoodRise => obtain rfl := outcome_next_inj h; exact .rise

/-- A step is an event of the state without its front command, or one step of a mount, or nothing. -/
theorem step_cases {s t : State} (h : step s = .next t) :
    (∃ rest, Event (s.setPending rest) t) ∨ (s.store.state = .mounting ∧ t = s.mountStep) ∨ t = s := by
  unfold step at h
  split at h
  · obtain rfl := outcome_next_inj h
    unfold State.idle
    split
    · next hm => exact .inr (.inl ⟨hm, rfl⟩)
    · exact .inr (.inr rfl)
  · next c rest _ => exact .inl ⟨rest, exec_event h⟩

end Sys2Proof.Machine

namespace Sys2Proof.Machine

/-! ## Lots: keys

No operation on a card's lots but a credit brings in a key, and all but a credit keep the keys' order. -/

theorem dropEmpty_keys (lots : List Lot) : ((dropEmpty lots).map (·.key)).Sublist (lots.map (·.key)) :=
  List.filter_sublist.map _

theorem expireLots_keys (today : Option Nat) (lots : List Lot) :
    ((expireLots today lots).map (·.key)).Sublist (lots.map (·.key)) := by
  refine (dropEmpty_keys _).trans ?_
  rw [List.map_map]
  exact (List.map_congr_left fun l _ => expireLot_key today l) ▸ List.Sublist.refl _

theorem drawLots_keys (a : Nat) (lots : List Lot) : (drawLots a lots).map (·.key) = lots.map (·.key) := by
  induction lots generalizing a with
  | nil => rfl
  | cons l rest ih => simp [drawLots, ih]

theorem endPart_keys (today : Option Nat) (lots : List Lot) (p : PartEnd) :
    (endPart today lots p).map (·.key) = lots.map (·.key) := by
  rw [endPart, List.map_map]
  refine List.map_congr_left fun l _ => ?_
  simp only [Function.comp]
  split
  · rw [expireLot_key]
  · rfl

theorem endParts_keys (today : Option Nat) (parts : List PartEnd) (lots : List Lot) :
    (parts.foldl (endPart today) lots).map (·.key) = lots.map (·.key) := by
  induction parts generalizing lots with
  | nil => rfl
  | cons p rest ih => rw [List.foldl_cons, ih, endPart_keys]

theorem endLots_keys (today : Option Nat) (parts : List PartEnd) (lots : List Lot) :
    ((endLots today parts lots).map (·.key)).Sublist (lots.map (·.key)) := by
  refine (dropEmpty_keys _).trans ?_
  rw [endParts_keys]
  exact expireLots_keys today lots

theorem restored_keys (lots : List Lot) : (lots.map Lot.restored).map (·.key) = lots.map (·.key) := by
  rw [List.map_map]
  rfl

theorem partsOf_keys (a : Nat) (lots : List Lot) : ((partsOf a lots).map (·.key)).Sublist (lots.map (·.key)) := by
  induction lots generalizing a with
  | nil => exact .refl _
  | cons l rest ih =>
    rw [partsOf_cons]
    split
    · exact (ih _).cons _
    · exact (ih _).cons_cons _

theorem splitParts_keys (taken : Nat) (parts : List Part) : (splitParts taken parts).map (·.key) = parts.map (·.key) := by
  induction parts generalizing taken with
  | nil => rfl
  | cons p rest ih => simp [splitParts, ih]

theorem saleParts_keys (a : Nat) (lots : List Lot) : ((saleParts a lots).map (·.key)).Sublist (lots.map (·.key)) := by
  rw [saleParts, List.map_map]
  exact partsOf_keys a lots

theorem length_le_of_keys {lots more : List Lot} (h : (lots.map (·.key)).Sublist (more.map (·.key))) :
    lots.length ≤ more.length := by
  simpa using h.length_le

/-! ## Lots: formed after every operation (R6 to R9) -/

/-- Lots whose keys are among those of formed lots, in their order, and of which none is empty. -/
theorem LotsFormed.of_keys {lots more : List Lot} (h : LotsFormed lots)
    (hk : (more.map (·.key)).Sublist (lots.map (·.key))) (hv : ∀ l ∈ more, 0 < l.available + l.held) : LotsFormed more := by
  refine ⟨(length_le_of_keys hk).trans h.few, h.distinct.sublist hk, ?_, hv⟩
  have ho : (lots.map (·.key)).Pairwise (fun a b => sortsBefore b a = false) := List.pairwise_map.mpr h.ordered
  exact List.pairwise_map.mp (ho.sublist hk)

theorem dropEmpty_valued (lots : List Lot) : ∀ l ∈ dropEmpty lots, 0 < l.available + l.held :=
  fun l hl => by simpa using (List.mem_filter.mp hl).2

theorem endLots_formed {lots : List Lot} (today : Option Nat) (parts : List PartEnd) (h : LotsFormed lots) :
    LotsFormed (endLots today parts lots) := h.of_keys (endLots_keys today parts lots) (dropEmpty_valued _)

theorem drawLots_formed {lots : List Lot} (a : Nat) (h : LotsFormed lots) : LotsFormed (dropEmpty (drawLots a lots)) :=
  h.of_keys (drawLots_keys a lots ▸ dropEmpty_keys _) (dropEmpty_valued _)

theorem restored_formed {lots : List Lot} (h : LotsFormed lots) : LotsFormed (lots.map Lot.restored) := by
  refine h.of_keys (restored_keys lots ▸ List.Sublist.refl _) fun l hl => ?_
  obtain ⟨x, hx, rfl⟩ := List.mem_map.mp hl
  exact h.valued x hx

theorem reserveLots_formed {lots : List Lot} (a : Nat) (h : LotsFormed lots) : LotsFormed (reserveLots a lots) := by
  refine h.of_keys (reserveLots_keys a lots ▸ List.Sublist.refl _) fun l hl => ?_
  have hm : l.available + l.held ∈ lots.map (fun l => l.available + l.held) :=
    reserveLots_values a lots ▸ List.mem_map_of_mem (f := fun l : Lot => l.available + l.held) hl
  obtain ⟨x, hx, hxe⟩ := List.mem_map.mp hm
  exact hxe ▸ h.valued x hx

theorem amountInRange_iff {a : Nat} : amountInRange a = true ↔ 1 ≤ a ∧ a ≤ Config.amountMax := by
  rw [amountInRange, Bool.and_eq_true, decide_eq_true_eq, decide_eq_true_eq]

theorem indexInRange_iff {i : Nat} : indexInRange i = true ↔ i < Config.merchants := decide_eq_true_iff

/-- The fields of an ISSUE (R27). -/
theorem issueInRange_spec {today m p : Nat} {q : Option PromoIssue} (h : issueInRange today m p q = true) :
    m < Config.merchants ∧ p ≤ Config.amountMax ∧
      ∀ x, q = some x → 1 ≤ x.amount ∧ x.amount ≤ Config.amountMax ∧ x.sponsor < Config.merchants := by
  unfold issueInRange at h
  rw [Bool.and_eq_true, Bool.and_eq_true, Bool.and_eq_true, indexInRange_iff, decide_eq_true_eq] at h
  obtain ⟨⟨⟨hm, hp⟩, -⟩, hq⟩ := h
  refine ⟨hm, hp, ?_⟩
  rintro x rfl
  rw [Bool.and_eq_true, Bool.and_eq_true, amountInRange_iff, indexInRange_iff] at hq
  exact ⟨hq.1.1.1, hq.1.1.2, hq.1.2⟩

/-- The fields of a LOAD (R27). -/
theorem loadInRange_spec {today m a : Nat} {q : Option PromoLoad} (h : loadInRange today m a q = true) :
    m < Config.merchants ∧ (1 ≤ a ∧ a ≤ Config.amountMax) ∧ ∀ x, q = some x → x.sponsor < Config.merchants := by
  unfold loadInRange at h
  rw [Bool.and_eq_true, Bool.and_eq_true, amountInRange_iff, indexInRange_iff] at h
  obtain ⟨⟨hm, ha⟩, hq⟩ := h
  refine ⟨hm, ha, ?_⟩
  rintro x rfl
  rw [Bool.and_eq_true, indexInRange_iff] at hq
  exact hq.1

/-- The lots of a new card are formed: one PROMO lot, then one PAID lot, of at least one cent each (R31). -/
theorem issueLots_formed {today m p : Nat} {q : Option PromoIssue} (days day : Nat)
    (h : issueInRange today m p q = true) : LotsFormed (issueLots (paidKey days day) p q) := by
  cases q with
  | none =>
    by_cases hp : p = 0
    · refine ⟨?_, ?_, ?_, ?_⟩ <;> simp [issueLots, hp]
    · refine ⟨?_, ?_, ?_, ?_⟩ <;> simp [issueLots, hp, Nat.pos_of_ne_zero hp]
  | some x =>
    have hx : 0 < x.amount := ((issueInRange_spec h).2.2 x rfl).1
    by_cases hp : p = 0
    · refine ⟨?_, ?_, ?_, ?_⟩ <;> simp [issueLots, hp, hx]
    · refine ⟨?_, ?_, ?_, ?_⟩ <;>
        simp [issueLots, hp, hx, paidKey, promoKey, sortsBefore, Nat.pos_of_ne_zero hp, Config.lotsPerCard]

/-! ## Keys of the spec (R5, R6) -/

/-- Every lot has a key of the spec. -/
abbrev KeysFormed (lots : List Lot) : Prop := ∀ l ∈ lots, l.key.Formed

theorem KeysFormed.of_keys {lots more : List Lot} (h : KeysFormed lots) (hk : more.map (·.key) ⊆ lots.map (·.key)) :
    KeysFormed more := fun l hl => by
  obtain ⟨x, hx, hxe⟩ := List.mem_map.mp (hk (List.mem_map_of_mem hl))
  exact hxe ▸ h x hx

theorem KeysFormed.part {lots : List Lot} (h : KeysFormed lots) {k : LotKey} (hk : k ∈ lots.map (·.key)) : k.Formed := by
  obtain ⟨x, hx, rfl⟩ := List.mem_map.mp hk
  exact h x hx

theorem KeysFormed.expire {lots : List Lot} (h : KeysFormed lots) (today : Option Nat) : KeysFormed (expireLots today lots) :=
  h.of_keys (expireLots_keys today lots).subset

theorem paidKey_formed (days today : Nat) : (paidKey days today).Formed := .inl ⟨rfl, rfl⟩

theorem promoKey_formed {sponsor : Nat} (expiry : Nat) (h : sponsor < Config.merchants) : (promoKey sponsor expiry).Formed :=
  .inr ⟨rfl, sponsor, rfl, h⟩

theorem KeysFormed.credit {lots : List Lot} (h : KeysFormed lots) {key : LotKey} (hk : key.Formed) (a : Nat) :
    KeysFormed (creditLots key a lots) := fun l hl => by
  by_cases e : l.key = key
  · exact e ▸ hk
  · exact h l ((mem_creditLots_of_ne e).mp hl)

/-- The sponsor that a key of the spec names is a merchant index; a PAID key names none, and 0 stands for it. -/
theorem LotKey.Formed.sponsor {k : LotKey} (h : k.Formed) : k.sponsor.getD 0 < Config.merchants := by
  rcases h with ⟨-, h⟩ | ⟨-, i, hi, hlt⟩
  · rw [h]; decide
  · rw [Option.mem_def.mp hi]; exact hlt

end Sys2Proof.Machine

namespace Sys2Proof.Machine

/-! ## Minute ticks and the ends of holds: what stays of each entry -/

section
variable (h : Hold) (b : Basket) (lapsing : List Nat)

@[simp] theorem Hold.tick_number : (h.tick lapsing).number = h.number := by unfold Hold.tick; split <;> rfl
@[simp] theorem Hold.tick_slot : (h.tick lapsing).slot = h.slot := by unfold Hold.tick; split <;> rfl
@[simp] theorem Hold.tick_merchant : (h.tick lapsing).merchant = h.merchant := by unfold Hold.tick; split <;> rfl
@[simp] theorem Hold.tick_amount : (h.tick lapsing).amount = h.amount := by unfold Hold.tick; split <;> rfl
@[simp] theorem Hold.tick_parts : (h.tick lapsing).parts = h.parts := by unfold Hold.tick; split <;> rfl
@[simp] theorem Hold.tick_basket : (h.tick lapsing).basket = h.basket := by unfold Hold.tick; split <;> rfl
@[simp] theorem Basket.tick_number : b.tick.number = b.number := by unfold Basket.tick; split <;> rfl
@[simp] theorem Basket.tick_merchant : b.tick.merchant = b.merchant := by unfold Basket.tick; split <;> rfl
@[simp] theorem Basket.tick_members : b.tick.members = b.members := by unfold Basket.tick; split <;> rfl

end

/-- What each tick keeps, any number of them keeps. -/
theorem HoldTable.ticks_keep {P : HoldTable → Prop} (hP : ∀ t, P t → P t.tick) (n : Nat) {t : HoldTable} (h : P t) :
    P (HoldTable.ticks n t) := by
  induction n generalizing t with
  | zero => exact h
  | succ n ih => exact ih (hP t h)

/-- A hold that stands after another is freed stood before. -/
theorem mem_freeHold_holds {t : HoldTable} {h e : Hold} (he : e ∈ (t.freeHold h).holds) : e ∈ t.holds :=
  (List.mem_filter.mp he).1

/-- A basket that stands after a hold is freed is a basket that stood before, with or without that member. -/
theorem mem_freeHold_baskets {t : HoldTable} {h : Hold} {b : Basket} (hb : b ∈ (t.freeHold h).baskets) :
    b ∈ t.baskets ∨ ∃ k ∈ t.baskets, b = k.without h.number := by
  unfold HoldTable.freeHold at hb
  split at hb
  · exact .inl hb
  · obtain ⟨k, hk, rfl⟩ := List.mem_map.mp (List.mem_filter.mp hb).1
    split
    · exact .inr ⟨k, hk, rfl⟩
    · exact .inl hk

/-! ## The targets of postings -/

/-- Every merchant whose record one of the postings moves satisfies `P`. -/
abbrev TargetsIn (P : Nat → Prop) (ps : List Posting) : Prop := ∀ p ∈ ps, ∀ i, p.target = some i → P i

theorem TargetsIn.append {P : Nat → Prop} {ps qs : List Posting} (hp : TargetsIn P ps) (hq : TargetsIn P qs) :
    TargetsIn P (ps ++ qs) := fun p h => (List.mem_append.mp h).elim (hp p) (hq p)

theorem TargetsIn.flatMap {α : Type} {P : Nat → Prop} {f : α → List Posting} {l : List α}
    (h : ∀ a ∈ l, TargetsIn P (f a)) : TargetsIn P (l.flatMap f) := fun p hp => by
  obtain ⟨a, ha, hpa⟩ := List.mem_flatMap.mp hp
  exact h a ha p hpa

/-- An expiry moves the operator's BREAKAGE, or the sponsor's PROMO_LAPSED and outstanding (R21). -/
theorem TargetsIn.expiry {P : Nat → Prop} {k : LotKey} {n : Nat} (h0 : P 0)
    (hs : n ≠ 0 → k.kind = .promo → P (k.sponsor.getD 0)) : TargetsIn P (expiryPostings k n) := by
  obtain ⟨kind, sp, ex⟩ := k
  by_cases hn : n = 0
  · simp [TargetsIn, expiryPostings, hn]
  · cases kind
    · simpa [TargetsIn, expiryPostings, hn, Posting.target] using h0
    · simpa [TargetsIn, expiryPostings, hn, Posting.target] using hs hn rfl

/-- Cents taken move the sponsor's SPONSOR_COST and outstanding (R59). -/
theorem TargetsIn.taken {P : Nat → Prop} {k : LotKey} {n : Nat}
    (hs : n ≠ 0 → k.kind = .promo → P (k.sponsor.getD 0)) : TargetsIn P (takenPostings k n) := by
  obtain ⟨kind, sp, ex⟩ := k
  by_cases hn : n = 0
  · simp [TargetsIn, takenPostings, hn]
  · cases kind
    · simp [TargetsIn, takenPostings, hn, Posting.target]
    · simpa [TargetsIn, takenPostings, hn, Posting.target] using hs hn rfl

theorem TargetsIn.lots {P : Nat → Prop} (today : Option Nat) {lots : List Lot} (h0 : P 0)
    (hs : ∀ l ∈ lots, l.available ≠ 0 → l.key.kind = .promo → P (l.key.sponsor.getD 0)) :
    TargetsIn P (lotsPostings today lots) := .flatMap fun l hl => by
  unfold lotPostings
  split
  · exact .expiry h0 (hs l hl)
  · exact nofun

/-- The end of a part moves a sponsor only when it takes or returns cents. -/
theorem TargetsIn.parts {P : Nat → Prop} (today : Option Nat) {parts : List PartEnd} (h0 : P 0)
    (hs : ∀ p ∈ parts, p.taken + p.returned ≠ 0 → p.key.kind = .promo → P (p.key.sponsor.getD 0)) :
    TargetsIn P (parts.flatMap (PartEnd.postings today)) := .flatMap fun p hp => by
  refine .append (.expiry h0 fun hn => hs p hp ?_) (.taken fun hn => hs p hp (by omega))
  unfold PartEnd.expired at hn
  split at hn
  · omega
  · exact absurd rfl hn

theorem TargetsIn.capture {P : Nat → Prop} {m a : Nat} (h : a ≠ 0 → P m) : TargetsIn P (capturePostings m a) := by
  by_cases ha : a = 0
  · simp [TargetsIn, capturePostings, ha]
  · intro p hp i hi
    simp only [capturePostings, ha, if_false, List.mem_cons, List.not_mem_nil, or_false] at hp
    rcases hp with rfl | rfl
    · simp only [Posting.target] at hi
      split at hi
      · cases hi
      · exact Option.some.inj hi ▸ h ha
    · exact Option.some.inj hi ▸ h ha

theorem TargetsIn.issue {P : Nat → Prop} {m p : Nat} {q : Option PromoIssue} (hm : P m)
    (hq : ∀ x, q = some x → P x.sponsor) : TargetsIn P (issuePostings m p q) := by
  rw [issuePostings_eq]
  refine .append ?_ ?_
  · by_cases hp : p = 0
    · simp [TargetsIn, hp]
    · simpa [TargetsIn, hp, Posting.target] using hm
  · cases q with
    | none => exact nofun
    | some x => simpa [TargetsIn, promoPostings, Posting.target] using hq x rfl

theorem TargetsIn.load {P : Nat → Prop} {m a : Nat} {q : Option PromoLoad} (hm : P m)
    (hq : ∀ x, q = some x → P x.sponsor) : TargetsIn P (loadPostings m a q) := by
  cases q with
  | none => simpa [TargetsIn, loadPostings, Posting.target] using hm
  | some x => simpa [TargetsIn, loadPostings, Posting.target] using hq x rfl

/-- A posting writes its target's record, or none. -/
theorem State.post_merchants (s : State) (p : Posting) : (s.post p).merchants = s.merchants ∨
    ∃ i m, p.target = some i ∧ (s.post p).merchants = tableSet Merchant.unlisted s.merchants i m := by
  cases p
  case feePart i a =>
    by_cases hi : i = 0
    · exact .inl (by simp [State.post, State.postFee, hi])
    · exact .inr ⟨i, _, by simp [Posting.target, hi], by simp only [State.post, State.postFee, hi, if_false, State.raiseIf_merchants]; rfl⟩
  case paidUp | promoUp => exact .inl (State.raiseIf_merchants ..)
  case paidDown | promoDown => exact .inl rfl
  case sponsoredUp i a | sponsoredDown i a =>
    exact .inr ⟨i, _, rfl, by simp only [State.post, State.postSponsored, State.raiseIf_merchants]; rfl⟩
  all_goals exact .inr ⟨_, _, rfl, by simp only [State.post, State.postField, State.raiseIf_merchants]; rfl⟩

end Sys2Proof.Machine

namespace Sys2Proof.Machine

/-! ## Tables in their canonical form (log entry 9), and the ranges of their numbers

The invariant in one part for each component of the state. `r` says whether the numbers are in their ranges as well. -/

/-- The card slots and the directory (R1, R3). -/
structure CardsKept (r : Prop) (t : CardTable) : Prop where
  slots : tableWf t.slots
  slotRange : ∀ e ∈ t.slots, e.1 < Config.cardSlots
  directory : tableWf t.directory
  numbers : r → ∀ e ∈ t.slots, e.2.number ≤ Config.cardNumberMax
  lots : r → ∀ e ∈ t.slots, KeysFormed e.2.lots
  directoryRange : r → ∀ e ∈ t.directory, e.1 ≤ Config.cardNumberMax ∧ e.2 < Config.cardSlots

/-- The numbers by which a hold names other records (R48). -/
def Hold.InRange (h : Hold) : Prop := h.merchant < Config.merchants ∧ h.slot < Config.cardSlots ∧ ∀ p ∈ h.parts, p.key.Formed

/-- The holds and baskets (R48, R74). -/
structure HoldsKept (r : Prop) (t : HoldTable) : Prop where
  holds : r → ∀ h ∈ t.holds, h.InRange
  baskets : r → ∀ b ∈ t.baskets, b.merchant < Config.merchants

/-- The merchant records (R91). -/
structure MerchantsKept (r : Prop) (t : Table Merchant) : Prop where
  formed : tableWfD Merchant.unlisted t
  range : r → ∀ e ∈ t, e.1 < Config.merchants

/-- The watch list (R43), the schedules (R109) and the closed positions (R133). -/
structure State.RecordsFormed (r : Prop) (s : State) : Prop where
  watch : tableWf s.watch
  watchRange : ∀ e ∈ s.watch, e.1 < Config.watchEntries
  schedules : tableWfD ScheduleEntry.blank s.schedules
  scheduleRange : ∀ e ∈ s.schedules, e.1 < Config.schedules
  closed : tableWf s.period.snapshot.closed
  closedRange : r → ∀ e ∈ s.period.snapshot.closed, e.1 < Config.merchants

/-- Every table in its form, and, when `r`, the numbers in their ranges. -/
structure State.TablesKept (r : Prop) (s : State) : Prop where
  cards : CardsKept r s.cards
  hold : HoldsKept r s.hold
  merchants : MerchantsKept r s.merchants
  records : s.RecordsFormed r

theorem State.TablesKept.formed {r : Prop} {s : State} (h : s.TablesKept r) : s.TablesFormed :=
  ⟨h.cards.slots, h.cards.slotRange, h.cards.directory, h.records.watch, h.records.watchRange, h.merchants.formed,
    h.records.schedules, h.records.scheduleRange, h.records.closed⟩

theorem State.TablesKept.inRange {r : Prop} {s : State} (h : s.TablesKept r) (hr : r) : s.TablesInRange :=
  ⟨h.cards.numbers hr, h.cards.directoryRange hr, h.cards.lots hr, h.merchants.range hr, h.records.closedRange hr,
    h.hold.holds hr, h.hold.baskets hr⟩

theorem State.TablesKept.of_formed {r : Prop} {s : State} (h : s.TablesFormed) (k : r → s.TablesInRange) :
    s.TablesKept r :=
  ⟨⟨h.slots, h.slotRange, h.directory, fun hr => (k hr).cardNumbers, fun hr => (k hr).lots, fun hr => (k hr).directory⟩,
    ⟨fun hr => (k hr).holds, fun hr => (k hr).baskets⟩, ⟨h.merchants, fun hr => (k hr).merchants⟩,
    ⟨h.watch, h.watchRange, h.schedules, h.scheduleRange, h.closed, fun hr => (k hr).closed⟩⟩

section
variable {r : Prop} {s t : State}

/-! ### Changes outside the tables -/

theorem State.TablesKept.flags (h : s.TablesKept r) (k : s.FlagsOnly t) : t.TablesKept r := by
  rw [k.eq]
  exact ⟨h.cards, h.hold, h.merchants, h.records.watch, h.records.watchRange, h.records.schedules, h.records.scheduleRange,
    h.records.closed, h.records.closedRange⟩

/-- The records are of the watch list, the schedules and the snapshot alone. -/
theorem State.RecordsFormed.congr (h : s.RecordsFormed r) (hw : t.watch = s.watch) (hs : t.schedules = s.schedules)
    (hc : t.period.snapshot.closed = s.period.snapshot.closed) : t.RecordsFormed r :=
  ⟨hw ▸ h.watch, hw ▸ h.watchRange, hs ▸ h.schedules, hs ▸ h.scheduleRange, hc ▸ h.closed, hc ▸ h.closedRange⟩

/-- A change outside the tables. -/
theorem State.TablesKept.congr (h : s.TablesKept r) (hc : t.cards = s.cards) (hh : t.hold = s.hold)
    (hm : t.merchants = s.merchants) (hw : t.watch = s.watch) (hs : t.schedules = s.schedules)
    (hp : t.period.snapshot.closed = s.period.snapshot.closed) : t.TablesKept r :=
  ⟨hc ▸ h.cards, hh ▸ h.hold, hm ▸ h.merchants, h.records.congr hw hs hp⟩

theorem State.TablesKept.grant (h : s.TablesKept r) (k : s.GrantOnly t) : t.TablesKept r := by
  rw [k.eq]; exact h.congr rfl rfl rfl rfl rfl rfl

theorem State.TablesKept.event (h : s.TablesKept r) (k : s.EventOnly t) : t.TablesKept r := by
  rw [k.eq]; exact h.congr rfl rfl rfl rfl rfl rfl

theorem State.TablesKept.raiseIf (h : s.TablesKept r) (b : Bool) (c : Condition) : (s.raiseIf b c).TablesKept r := by
  cases b
  · exact h
  · exact h.congr rfl rfl rfl rfl rfl rfl

/-! ### Cards -/

theorem CardsKept.congr {t u : CardTable} (h : CardsKept r t) (hs : u.slots = t.slots) (hd : u.directory = t.directory) :
    CardsKept r u :=
  ⟨hs ▸ h.slots, hs ▸ h.slotRange, hd ▸ h.directory, hs ▸ h.numbers, hs ▸ h.lots, hd ▸ h.directoryRange⟩

theorem CardsKept.insert {t : CardTable} (h : CardsKept r t) {slot : Nat} {c : Card} (hs : slot < Config.cardSlots)
    (hc : r → c.number ≤ Config.cardNumberMax ∧ KeysFormed c.lots) :
    CardsKept r { t with slots := tableInsert t.slots slot c } := by
  have mem : ∀ {P : Nat × Card → Prop}, P (slot, c) → (∀ e ∈ t.slots, P e) → ∀ e ∈ tableInsert t.slots slot c, P e :=
    fun h1 h2 e he => (mem_tableInsert he).elim (fun e => e ▸ h1) (h2 e)
  exact ⟨tableWf_insert _ _ _ h.slots, mem hs h.slotRange, h.directory, fun hr => mem (hc hr).1 (h.numbers hr),
    fun hr => mem (hc hr).2 (h.lots hr), h.directoryRange⟩

theorem CardsKept.erase {t : CardTable} (h : CardsKept r t) (slot : Nat) :
    CardsKept r { t with slots := tableErase t.slots slot } :=
  ⟨tableWf_erase _ _ h.slots, fun e he => h.slotRange e (mem_tableErase he), h.directory,
    fun hr e he => h.numbers hr e (mem_tableErase he), fun hr e he => h.lots hr e (mem_tableErase he), h.directoryRange⟩

theorem CardsKept.enter {t : CardTable} (h : CardsKept r t) {n slot : Nat}
    (hn : r → n ≤ Config.cardNumberMax ∧ slot < Config.cardSlots) :
    CardsKept r { t with directory := tableInsert t.directory n slot } :=
  ⟨h.slots, h.slotRange, tableWf_insert _ _ _ h.directory, h.numbers, h.lots,
    fun hr e he => (mem_tableInsert he).elim (fun e => e ▸ hn hr) (h.directoryRange hr e)⟩

theorem CardsKept.leave {t : CardTable} (h : CardsKept r t) (n : Nat) :
    CardsKept r { t with directory := tableErase t.directory n } :=
  ⟨h.slots, h.slotRange, tableWf_erase _ _ h.directory, h.numbers, h.lots,
    fun hr e he => h.directoryRange hr e (mem_tableErase he)⟩

/-- A card that stands has its slot, its number and its keys in range. -/
theorem CardsKept.card (h : CardsKept r s.cards) {slot : Nat} {c : Card} (hc : s.cardAt slot = some c) :
    slot < Config.cardSlots ∧ (r → c.number ≤ Config.cardNumberMax ∧ KeysFormed c.lots) :=
  ⟨h.slotRange _ (mem_of_tableFind hc), fun hr => ⟨h.numbers hr _ (mem_of_tableFind hc), h.lots hr _ (mem_of_tableFind hc)⟩⟩

theorem State.TablesKept.withCards (h : s.TablesKept r) {t : CardTable} (ht : CardsKept r t) :
    ({ s with cards := t } : State).TablesKept r := ⟨ht, h.hold, h.merchants, h.records.congr rfl rfl rfl⟩

theorem State.TablesKept.putCard (h : s.TablesKept r) {slot : Nat} {c : Card} (hs : slot < Config.cardSlots)
    (hc : r → c.number ≤ Config.cardNumberMax ∧ KeysFormed c.lots) : (s.putCard slot c).TablesKept r :=
  h.withCards (h.cards.insert hs hc)

theorem State.TablesKept.insertCard (h : s.TablesKept r) {slot : Nat} {c : Card} (hs : slot < Config.cardSlots)
    (hc : r → c.number ≤ Config.cardNumberMax ∧ KeysFormed c.lots) : (s.insertCard slot c).TablesKept r :=
  h.withCards ((h.cards.insert hs hc).enter fun hr => ⟨(hc hr).1, hs⟩)

theorem State.TablesKept.renameCard (h : s.TablesKept r) {slot : Nat} (o : Nat) {c : Card} (hs : slot < Config.cardSlots)
    (hc : r → c.number ≤ Config.cardNumberMax ∧ KeysFormed c.lots) : (s.renameCard slot o c).TablesKept r :=
  h.withCards (((h.cards.insert hs hc).leave o).enter fun hr => ⟨(hc hr).1, hs⟩)

theorem State.TablesKept.retireCard (h : s.TablesKept r) (slot n : Nat) : (s.retireCard slot n).TablesKept r :=
  h.withCards ((h.cards.erase slot).leave n)

theorem State.TablesKept.closingCheck (h : s.TablesKept r) {slot : Nat} {c : Card} (hs : slot < Config.cardSlots)
    (hc : r → c.number ≤ Config.cardNumberMax ∧ KeysFormed c.lots) : (s.closingCheck slot c).TablesKept r := by
  unfold State.closingCheck
  split
  · split
    · exact h.retireCard slot c.number
    · exact h.putCard hs hc
  · exact h.putCard hs hc

/-! ### Merchants -/

theorem mem_tableSet {α : Type} [DecidableEq α] {d : α} {t : Table α} {i : Nat} {v : α} {e : Nat × α}
    (h : e ∈ tableSet d t i v) : e = (i, v) ∨ e ∈ t := by
  unfold tableSet at h
  split at h
  · exact .inr (mem_tableErase h)
  · exact mem_tableInsert h

theorem MerchantsKept.set {t : Table Merchant} (h : MerchantsKept r t) {i : Nat} {m : Merchant}
    (hi : r → i < Config.merchants) : MerchantsKept r (tableSet Merchant.unlisted t i m) :=
  ⟨tableWfD_set _ _ _ _ h.formed, fun hr e he => (mem_tableSet he).elim (fun e => e ▸ hi hr) (h.range hr e)⟩

theorem mem_tableMap {α : Type} [DecidableEq α] {d : α} {f : Nat → α → α} {t : Table α} {e : Nat × α}
    (h : e ∈ tableMap d f t) : ∃ x ∈ t, e = (x.1, f x.1 x.2) := by
  obtain ⟨x, hx, rfl⟩ := List.mem_map.mp (List.mem_filter.mp h).1
  exact ⟨x, hx, rfl⟩

theorem MerchantsKept.map {t : Table Merchant} (h : MerchantsKept r t) (f : Nat → Merchant → Merchant) :
    MerchantsKept r (tableMap Merchant.unlisted f t) :=
  ⟨tableWfD_map _ _ _ h.formed, fun hr e he => by
    obtain ⟨x, hx, rfl⟩ := mem_tableMap he
    exact h.range hr x hx⟩

theorem State.TablesKept.withMerchants (h : s.TablesKept r) {t : Table Merchant} (ht : MerchantsKept r t) :
    ({ s with merchants := t } : State).TablesKept r := ⟨h.cards, h.hold, ht, h.records.congr rfl rfl rfl⟩

theorem State.TablesKept.setMerchant (h : s.TablesKept r) {i : Nat} (m : Merchant) (hi : r → i < Config.merchants) :
    (s.setMerchant i m).TablesKept r := h.withMerchants (h.merchants.set hi)

theorem State.TablesKept.onMerchant (h : s.TablesKept r) {i : Nat} (f : Merchant → Merchant) (hi : r → i < Config.merchants) :
    (s.onMerchant i f).TablesKept r := h.setMerchant _ hi

theorem State.TablesKept.post (h : s.TablesKept r) {p : Posting} (hp : r → ∀ i, p.target = some i → i < Config.merchants) :
    (s.post p).TablesKept r := by
  have hm : MerchantsKept r (s.post p).merchants := by
    rcases s.post_merchants p with e | ⟨i, m, ht, e⟩ <;> rw [e]
    · exact h.merchants
    · exact h.merchants.set fun hr => hp hr i ht
  rw [(s.post_money p).eq]
  exact ⟨h.cards.congr rfl rfl, h.hold, hm, h.records.congr rfl rfl rfl⟩

theorem State.TablesKept.postAll (h : s.TablesKept r) {ps : List Posting}
    (hp : r → TargetsIn (· < Config.merchants) ps) : (s.postAll ps).TablesKept r := by
  induction ps generalizing s with
  | nil => exact h
  | cons p ps ih =>
    exact ih (h.post fun hr => hp hr p List.mem_cons_self) fun hr q hq => hp hr q (List.mem_cons_of_mem p hq)

theorem zero_lt_merchants : 0 < Config.merchants := by decide

/-- The postings of a card's expiry move merchants in range. -/
theorem State.TablesKept.expiryPosted (h : s.TablesKept r) {slot : Nat} {c : Card} (hc : s.cardAt slot = some c) :
    (s.expiryPosted c).TablesKept r :=
  h.postAll fun hr => .lots _ zero_lt_merchants fun l hl _ _ => (((h.cards.card hc).2 hr).2 l hl).sponsor

/-! ### Holds -/

theorem State.TablesKept.withHold (h : s.TablesKept r) {t : HoldTable} (ht : HoldsKept r t) :
    ({ s with hold := t } : State).TablesKept r := ⟨h.cards, ht, h.merchants, h.records.congr rfl rfl rfl⟩

theorem HoldsKept.freeHold {t : HoldTable} (h : HoldsKept r t) (e : Hold) : HoldsKept r (t.freeHold e) :=
  ⟨fun hr x hx => h.holds hr x (mem_freeHold_holds hx), fun hr b hb => by
    rcases mem_freeHold_baskets hb with hb | ⟨k, hk, rfl⟩
    · exact h.baskets hr b hb
    · exact h.baskets hr k hk⟩

theorem HoldsKept.filterBaskets {t : HoldTable} (h : HoldsKept r t) (p : Basket → Bool) :
    HoldsKept r { t with baskets := t.baskets.filter p } :=
  ⟨h.holds, fun hr b hb => h.baskets hr b (List.mem_filter.mp hb).1⟩

theorem HoldsKept.tick {t : HoldTable} (h : HoldsKept r t) : HoldsKept r t.tick := by
  refine ⟨fun hr x hx => ?_, fun hr b hb => ?_⟩
  · obtain ⟨e, he, rfl⟩ := List.mem_map.mp hx
    simpa [Hold.InRange] using h.holds hr e he
  · obtain ⟨k, hk, rfl⟩ := List.mem_map.mp hb
    simpa using h.baskets hr k hk

theorem HoldsKept.addHold {t : HoldTable} (h : HoldsKept r t) {e : Hold} (he : r → e.InRange) : HoldsKept r (t.addHold e) := by
  refine ⟨fun hr x hx => ?_, fun hr b hb => ?_⟩
  · rcases List.mem_append.mp hx with hx | hx
    · exact h.holds hr x hx
    · exact List.mem_singleton.mp hx ▸ he hr
  · obtain ⟨k, hk, rfl⟩ := List.mem_map.mp hb
    have := h.baskets hr k hk
    split <;> exact this

theorem State.TablesKept.takeTicks (h : s.TablesKept r) : s.takeTicks.TablesKept r :=
  h.withHold (HoldTable.ticks_keep (P := HoldsKept r) (fun _ ht => ht.tick) _ h.hold |> fun k => ⟨k.holds, k.baskets⟩)

/-- The end of a hold that names a merchant, a slot and keys in range. -/
theorem State.TablesKept.endHold (h : s.TablesKept r) {e : Hold} (he : r → e.InRange) (taken : Nat) :
    (s.endHold e taken).TablesKept r := by
  cases hc : s.cardAt e.slot with
  | none =>
    simp only [State.endHold, State.endOnCard, hc]
    exact (h.withHold (h.hold.freeHold e)).onMerchant _ fun hr => (he hr).1
  | some c =>
    obtain ⟨hslot, hcard⟩ := h.cards.card hc
    rw [State.endHold_found hc]
    refine State.TablesKept.onMerchant ?_ _ fun hr => (he hr).1
    have hp : (endPosted s e taken c).TablesKept r := h.postAll fun hr =>
      .append (.lots _ zero_lt_merchants fun l hl _ _ => ((hcard hr).2 l hl).sponsor)
        (.parts _ zero_lt_merchants fun p hp _ _ => by
          have hk : p.key ∈ (splitParts taken e.parts).map (·.key) := List.mem_map_of_mem hp
          rw [splitParts_keys] at hk
          obtain ⟨x, hx, hxe⟩ := List.mem_map.mp hk
          exact (hxe ▸ (he hr).2.2 x hx).sponsor)
    have hk : (endPosted s e taken c).closingCheck e.slot (endedCard s e taken c) |>.TablesKept r :=
      hp.closingCheck hslot fun hr => ⟨(hcard hr).1, (hcard hr).2.of_keys (endLots_keys _ _ _).subset⟩
    exact hk.withHold (h.hold.freeHold e)

theorem State.TablesKept.endHolds (h : s.TablesKept r) {ends : List (Hold × Nat)} (he : r → ∀ e ∈ ends, e.1.InRange) :
    (s.endHolds ends).TablesKept r := by
  induction ends generalizing s with
  | nil => exact h
  | cons e rest ih =>
    exact ih (h.endHold (fun hr => he hr e List.mem_cons_self) e.2) fun hr x hx => he hr x (List.mem_cons_of_mem e hx)

theorem State.TablesKept.freeBasket (h : s.TablesKept r) (n : Nat) : (s.freeBasket n).TablesKept r :=
  h.withHold (h.hold.filterBaskets _)

theorem mem_memberHolds {t : HoldTable} {members : List Nat} {h : Hold} (hm : h ∈ t.memberHolds members) : h ∈ t.holds := by
  obtain ⟨n, -, hn⟩ := List.mem_filterMap.mp hm
  exact (holdEntry_spec hn).1

theorem State.TablesKept.ends (h : s.TablesKept r) {ends : List (Hold × Nat)} {members : List Nat}
    (hm : ends.map (·.1) = s.hold.memberHolds members) : (s.endHolds ends).TablesKept r :=
  h.endHolds fun hr e he => h.hold.holds hr e.1 (mem_memberHolds (hm ▸ List.mem_map_of_mem he))

theorem State.TablesKept.clearBaskets (h : s.TablesKept r) (m t : Nat) : (s.clearBaskets m t).TablesKept r := by
  unfold State.clearBaskets
  generalize s.hold.terminalBaskets m t = bs
  induction bs generalizing s with
  | nil => exact h
  | cons b rest ih => exact ih ((h.ends (releaseEnds_holds s b)).freeBasket b.number)

/-! ### The units of the arbiter -/

theorem State.TablesKept.completeUnit (h : s.TablesKept r) (keeps : Bool) : (s.completeUnit keeps).TablesKept r := by
  unfold State.completeUnit
  refine State.TablesKept.grant (State.TablesKept.takeTicks ?_) (State.arbitrate_grant _)
  split
  · exact h
  · exact h.congr rfl rfl rfl rfl rfl rfl

theorem State.TablesKept.completeRequest (h : s.TablesKept r) (f : Frame) (x : Reply) :
    (s.completeRequest f x).TablesKept r := by
  unfold State.completeRequest
  refine State.TablesKept.completeUnit ?_ false
  split
  · exact h.congr rfl rfl rfl rfl rfl rfl
  · exact h.congr rfl rfl rfl rfl rfl rfl

theorem State.TablesKept.arbitrate (h : s.TablesKept r) : s.arbitrate.TablesKept r := h.grant s.arbitrate_grant

theorem State.TablesKept.completeTaken (h : s.TablesKept r) (f : Frame) (x : Reply) : (s.completeTaken f x).TablesKept r :=
  State.TablesKept.arbitrate (h.congr rfl rfl rfl rfl rfl rfl)

theorem State.TablesKept.requestCut (h : s.TablesKept r) : s.requestCut.TablesKept r := by
  unfold State.requestCut
  split <;> exact h.congr rfl rfl rfl rfl rfl rfl

theorem State.TablesKept.takeTick (h : s.TablesKept r) : s.takeTick.TablesKept r := by
  unfold State.takeTick
  split
  · exact (h.withHold (t := { s.hold.tick with ticksDue := s.hold.ticksDue - 1 })
      ⟨h.hold.tick.holds, h.hold.tick.baskets⟩).arbitrate
  · exact h

theorem State.TablesKept.countDay (h : s.TablesKept r) : s.countDay.TablesKept r := by
  unfold State.countDay
  split
  · split
    · exact State.TablesKept.requestCut (h.congr rfl rfl rfl rfl rfl rfl)
    · exact h.congr rfl rfl rfl rfl rfl rfl
  · exact h

theorem State.TablesKept.takeRoll (h : s.TablesKept r) : s.takeRoll.TablesKept r := by
  unfold State.takeRoll
  split
  · refine (State.TablesKept.event (State.TablesKept.countDay ?_) (State.deliver_event _ _)).arbitrate
    exact h.congr rfl rfl rfl rfl rfl rfl
  · exact h

theorem State.TablesKept.advance (h : s.TablesKept r) : s.advance.TablesKept r := by
  have k := h.takeTick.takeRoll
  exact ⟨k.cards, ⟨k.hold.holds, k.hold.baskets⟩, k.merchants, k.records.congr rfl rfl rfl⟩

theorem State.TablesKept.setDivider (h : s.TablesKept r) (n : Nat) : (s.setDivider n).TablesKept r :=
  h.congr rfl rfl rfl rfl rfl rfl

theorem State.TablesKept.fallBack (h : s.TablesKept r) : s.fallBack.TablesKept r :=
  State.TablesKept.advance (h.congr rfl rfl rfl rfl rfl rfl)

theorem State.TablesKept.edge (h : s.TablesKept r) : s.edge.TablesKept r := by
  unfold State.edge
  split
  · exact (h.setDivider 0).advance
  · exact h.congr rfl rfl rfl rfl rfl rfl
  · exact h.setDivider 0

theorem State.TablesKept.dividerTick (h : s.TablesKept r) : s.dividerTick.TablesKept r := by
  unfold State.dividerTick
  split
  · split
    · exact h.fallBack
    · exact h.setDivider _
  · exact (h.setDivider _).advance
  · exact (h.setDivider _).advance

theorem State.TablesKept.lapseHold (h : s.TablesKept r) (n : Nat) : (s.lapseHold n).TablesKept r := by
  unfold State.lapseHold
  split
  · exact h
  · next e he => exact h.endHold (fun hr => h.hold.holds hr e (holdEntry_spec he).1) 0

theorem State.TablesKept.dropLapse (h : s.TablesKept r) : s.dropLapse.TablesKept r :=
  h.withHold ⟨h.hold.holds, h.hold.baskets⟩

/-- The closed positions of a cut: of the merchants listed, and of the operator (R132). -/
theorem State.TablesKept.closedPositions (h : s.TablesKept r) :
    tableWf s.closedPositions ∧ (r → ∀ e ∈ s.closedPositions, e.1 < Config.merchants) := by
  have wf : tableWf s.closedCopies := (tableWf_map s.closedCopy _ h.merchants.formed.1).filter _
  refine ⟨?_, fun hr e he => ?_⟩
  · have : tableWf (withFeeIncome s.closedCopies) :=
      (tableWfD_set ClosedPosition.blank _ _ _ ⟨wf, fun e he => by simpa using (List.mem_filter.mp he).2⟩).1
    exact tableWf_map (fun _ c => { c with net := clampNet (netExact c) }) _ this
  · obtain ⟨x, hx, rfl⟩ := List.mem_map.mp he
    rcases mem_tableSet hx with rfl | hx
    · exact zero_lt_merchants
    · obtain ⟨y, hy, rfl⟩ := List.mem_map.mp (List.mem_filter.mp hx).1
      exact h.merchants.range hr y hy

theorem State.TablesKept.takeCut (h : s.TablesKept r) : s.takeCut.TablesKept r := by
  refine State.TablesKept.event (State.TablesKept.raiseIf ?_ _ _) (State.deliver_event _ _)
  refine ⟨h.cards, h.hold, h.merchants.map fun _ m => m.afterCut, h.records.watch, h.records.watchRange,
    tableWfD_map _ (fun _ e => e.afterCut) _ h.records.schedules, fun e he => ?_, h.closedPositions.1, h.closedPositions.2⟩
  obtain ⟨x, hx, rfl⟩ := mem_tableMap (f := fun _ e => ScheduleEntry.afterCut e) he
  exact h.records.scheduleRange x hx

theorem State.TablesKept.cutWork (h : s.TablesKept r) : s.cutWork.TablesKept r := by
  unfold State.cutWork
  split
  · exact h.takeCut
  · refine State.TablesKept.event ?_ (State.deliver_event _ _)
    exact h.congr rfl rfl rfl rfl rfl rfl

theorem State.TablesKept.walkUnit (h : s.TablesKept r) : s.walkUnit.TablesKept r := by
  unfold State.walkUnit
  split
  · exact h.congr rfl rfl rfl rfl rfl rfl
  · exact h

theorem State.TablesKept.visit (h : s.TablesKept r) (slot : Nat) : (s.visit slot).TablesKept r := by
  unfold State.visit
  split
  · exact h
  · next c hc =>
    obtain ⟨hslot, hcard⟩ := h.cards.card hc
    dsimp only
    split
    · exact (h.expiryPosted hc).retireCard _ _
    · exact (h.expiryPosted hc).putCard hslot fun hr => ⟨(hcard hr).1, (hcard hr).2.expire _⟩

theorem State.TablesKept.sweepUnit (h : s.TablesKept r) : s.sweepUnit.TablesKept r := by
  have visits : ∀ (slots : List Nat) {s : State}, s.TablesKept r → (slots.foldl State.visit s).TablesKept r := fun slots => by
    induction slots with
    | nil => exact fun h => h
    | cons j rest ih => exact fun h => ih (h.visit j)
  have hv := visits s.sweepVisits h
  unfold State.sweepUnit
  dsimp only
  split
  · unfold State.endPass
    refine State.TablesKept.event ?_ (State.deliver_event _ _)
    split
    · exact hv.congr rfl rfl rfl rfl rfl rfl
    · exact hv.congr rfl rfl rfl rfl rfl rfl
  · exact hv.congr rfl rfl rfl rfl rfl rfl

/-! ### The mount, the reset and FORMAT -/

theorem State.TablesKept.mountSettings (h : s.TablesKept r) : s.mountSettings.TablesKept r :=
  ⟨⟨h.cards.slots, h.cards.slotRange, List.Pairwise.nil, h.cards.numbers, h.cards.lots, fun _ => nofun⟩, h.hold, h.merchants,
    h.records.congr rfl rfl rfl⟩

theorem State.TablesKept.mountCard (h : s.TablesKept r) (slot : Nat) : (s.mountCard slot).TablesKept r := by
  unfold State.mountCard
  split
  · exact h
  · next c hc =>
    obtain ⟨hslot, hcard⟩ := h.cards.card hc
    have hc' : r → c.number ≤ Config.cardNumberMax ∧ KeysFormed (c.lots.map Lot.restored) := fun hr =>
      ⟨(hcard hr).1, (hcard hr).2.of_keys (restored_keys c.lots ▸ List.Subset.refl _)⟩
    exact (h.insertCard hslot hc').closingCheck hslot hc'

theorem mem_allLots {l : Lot} : l ∈ s.allLots ↔ ∃ e ∈ s.cards.slots, l ∈ e.2.lots := List.mem_flatMap

theorem State.TablesKept.mountSponsors (h : s.TablesKept r) (lots : List Lot) {sponsors : List Nat}
    (hi : r → ∀ i ∈ sponsors, i < Config.merchants) : (sponsors.foldl (State.mountSponsor lots) s).TablesKept r := by
  induction sponsors generalizing s with
  | nil => exact h
  | cons i rest ih =>
    have hs : (State.mountSponsor lots s i).TablesKept r := h.onMerchant _ fun hr => hi hr i List.mem_cons_self
    exact ih hs (fun hr j hj => hi hr j (List.mem_cons_of_mem i hj))

theorem State.TablesKept.mountTotals (h : s.TablesKept r) : s.mountTotals.TablesKept r := by
  refine State.TablesKept.mountSponsors (s := { s with
      cards := { s.cards with
        paidOutstanding := min (kindValue .paid s.allLots) Config.sum48Max
        promoOutstanding := min (kindValue .promo s.allLots) Config.sum48Max }
      merchants := tableMap Merchant.unlisted (fun _ m => { m with sponsored := 0 }) s.merchants })
    ⟨h.cards.congr rfl rfl, h.hold, h.merchants.map fun _ m => { m with sponsored := 0 }, h.records.congr rfl rfl rfl⟩
    s.allLots fun hr i hi => ?_
  obtain ⟨l, hl, hs⟩ := List.mem_filterMap.mp hi
  obtain ⟨e, he, hle⟩ := mem_allLots.mp hl
  have := (h.cards.lots hr e he l hle).sponsor
  rwa [hs] at this

theorem State.TablesKept.mountMerchants (h : s.TablesKept r) : s.mountMerchants.TablesKept r :=
  h.withMerchants (h.merchants.map fun _ m => { m with openHolds := 0 })

theorem State.TablesKept.mountSnapshot (h : s.TablesKept r) : s.mountSnapshot.TablesKept r := by
  unfold State.mountSnapshot
  split
  · exact h.congr rfl rfl rfl rfl rfl rfl
  · exact h

theorem State.TablesKept.setMount (h : s.TablesKept r) (m : MountStage) : (s.setMount m).TablesKept r :=
  h.congr rfl rfl rfl rfl rfl rfl

theorem State.TablesKept.mountStep (h : s.TablesKept r) : s.mountStep.TablesKept r := by
  unfold State.mountStep
  split
  · exact h.mountSettings.setMount _
  · split
    · exact (h.mountCard _).setMount _
    · exact h.setMount _
  · exact h.mountTotals.setMount _
  · exact h.mountMerchants.setMount _
  · exact h.mountSnapshot.setMount _
  · exact h

theorem State.TablesKept.mountAll (h : s.TablesKept r) : s.mountAll.TablesKept r := by
  have cards : ∀ (slots : List Nat) {s : State}, s.TablesKept r → (slots.foldl State.mountCard s).TablesKept r := fun slots => by
    induction slots with
    | nil => exact fun h => h
    | cons j rest ih => exact fun h => ih (h.mountCard j)
  exact (cards _ h.mountSettings).mountTotals.mountMerchants.mountSnapshot.setMount _

theorem State.TablesKept.becomeReady (h : s.TablesKept r) : s.becomeReady.TablesKept r := h.congr rfl rfl rfl rfl rfl rfl

theorem State.TablesKept.requestExpiredCut (h : s.TablesKept r) : s.requestExpiredCut.TablesKept r := by
  unfold State.requestExpiredCut
  split
  · exact h.congr rfl rfl rfl rfl rfl rfl
  · exact h

theorem State.TablesKept.completeMount (h : s.TablesKept r) : s.completeMount.TablesKept r := by
  exact h.mountAll.becomeReady.requestExpiredCut.raiseIf _ _

theorem State.TablesKept.formatted (h : s.TablesKept r) : s.formatted.TablesKept r := by
  refine ⟨⟨List.Pairwise.nil, nofun, List.Pairwise.nil, fun _ => nofun, fun _ => nofun, fun _ => nofun⟩, h.hold,
    ⟨⟨List.pairwise_singleton _ _, ?_⟩, fun _ => ?_⟩, ⟨List.Pairwise.nil, nofun, ⟨List.Pairwise.nil, nofun⟩, nofun, List.Pairwise.nil,
    fun _ => nofun⟩⟩
  · intro e he
    obtain rfl := List.mem_singleton.mp he
    decide
  · intro e he
    obtain rfl := List.mem_singleton.mp he
    exact zero_lt_merchants

theorem State.TablesKept.deviceReset (h : s.TablesKept r) (k : ResetKind) (b : Bool) : (s.deviceReset k b).TablesKept r :=
  ⟨h.cards, ⟨fun _ => nofun, fun _ => nofun⟩, h.merchants, h.records.congr rfl rfl rfl⟩

/-! ### The work of requests -/

/-- The card that the directory leads to. -/
theorem State.cardAt_of_lookup {n slot : Nat} {c : Card} (h : s.lookup n = some (slot, c)) : s.cardAt slot = some c := by
  unfold State.lookup at h
  split at h
  · cases h
  · obtain ⟨x, hx, he⟩ := Option.map_eq_some_iff.mp h
    obtain ⟨rfl, rfl⟩ := Prod.mk.inj he
    exact hx

theorem State.directory_of_lookup {n slot : Nat} {c : Card} (h : s.lookup n = some (slot, c)) :
    tableFind s.cards.directory n = some slot := by
  unfold State.lookup at h
  split at h
  · cases h
  · next slot' hd =>
    obtain ⟨x, -, he⟩ := Option.map_eq_some_iff.mp h
    rw [hd, (Prod.mk.inj he).1]

theorem validNumber_le {n : Nat} (h : validNumber n = true) : n ≤ Config.cardNumberMax := ((validNumber_iff n).mp h).1

theorem loadKey_formed {today day days m a : Nat} {q : Option PromoLoad} (h : loadInRange today m a q = true) :
    (loadKey days day q).Formed := by
  cases q with
  | none => exact paidKey_formed days day
  | some x => exact promoKey_formed x.expiry ((loadInRange_spec h).2.2 x rfl)

theorem issueLots_keysFormed {today days day m p : Nat} {q : Option PromoIssue} (h : issueInRange today m p q = true) :
    KeysFormed (issueLots (paidKey days day) p q) := by
  intro l hl
  unfold issueLots at hl
  rcases List.mem_append.mp hl with hl | hl
  · cases q with
    | none => cases hl
    | some x =>
      obtain rfl := List.mem_singleton.mp hl
      exact promoKey_formed _ ((issueInRange_spec h).2.2 x rfl).2.2
  · split at hl
    · simp at hl
    · obtain rfl := List.mem_singleton.mp hl
      exact paidKey_formed _ _

/-- A credited card. -/
theorem State.TablesKept.credit (h : s.TablesKept r) {slot : Nat} {c : Card} (hc : s.cardAt slot = some c) {key : LotKey}
    (hk : key.Formed) (a : Nat) : ((s.expiryPosted c).putCard slot (creditedCard s c key a)).TablesKept r :=
  (h.expiryPosted hc).putCard (h.cards.card hc).1 fun hr =>
    ⟨((h.cards.card hc).2 hr).1, (((h.cards.card hc).2 hr).2.expire _).credit hk a⟩

theorem State.TablesKept.watchTarget (h : s.TablesKept r) {e : Nat} (n : Nat) (he : e < Config.watchEntries) :
    s.watchTarget e n < Config.watchEntries := by
  unfold State.watchTarget
  split
  · next x hx => exact h.records.watchRange x (List.mem_of_find?_eq_some hx)
  · exact he

theorem State.TablesKept.effect (h : s.TablesKept r) (e : Effect s t) : t.TablesKept r := by
  have card : ∀ {n slot c}, s.lookup n = some (slot, c) → s.cardAt slot = some c := State.cardAt_of_lookup
  have inCard := fun {slot c} (hc : s.cardAt slot = some c) => h.cards.card hc
  cases e
  case nothing => exact h
  case issued hr hv hrange _ _ _ hslot _ =>
    have hm := issueInRange_spec hrange
    exact (h.insertCard hslot fun _ => ⟨validNumber_le hv, issueLots_keysFormed hrange⟩).postAll fun _ =>
      .issue hm.1 fun x hx => (hm.2.2 x hx).2.2
  case loaded hr hrange _ _ hf _ _ =>
    have hm := loadInRange_spec hrange
    exact (h.credit (card hf) (loadKey_formed hrange) _).postAll fun _ => .load hm.1 fun x hx => hm.2.2 x hx
  case refunded hr hm _ _ hf _ _ =>
    exact (h.credit (card hf) (paidKey_formed _ _) _).postAll fun _ => by simpa [TargetsIn, Posting.target] using hm
  case restated st hr hf =>
    exact (h.expiryPosted (card hf)).putCard (inCard (card hf)).1 fun hr =>
      ⟨((inCard (card hf)).2 hr).1, ((inCard (card hf)).2 hr).2.expire _⟩
  case retired hr hf _ _ => exact (h.expiryPosted (card hf)).retireCard _ _
  case replaced hr hf hv _ _ =>
    exact (h.expiryPosted (card hf)).renameCard _ (inCard (card hf)).1 fun hr =>
      ⟨validNumber_le hv, ((inCard (card hf)).2 hr).2.expire _⟩
  case watchWritten e n a he =>
    exact ⟨h.cards, h.hold, h.merchants, tableWf_insert _ _ _ h.records.watch, fun x hx =>
      (mem_tableInsert hx).elim (fun e => e ▸ h.watchTarget n he) (h.records.watchRange x), h.records.schedules,
      h.records.scheduleRange, h.records.closed, h.records.closedRange⟩
  case watchCleared e =>
    exact ⟨h.cards, h.hold, h.merchants, tableWf_erase _ _ h.records.watch, fun x hx => h.records.watchRange x (mem_tableErase hx),
      h.records.schedules, h.records.scheduleRange, h.records.closed, h.records.closedRange⟩
  case authorized hr hm _ hf _ _ _ _ _ =>
    obtain ⟨hslot, hcard⟩ := inCard (card hf)
    refine State.TablesKept.withHold (State.TablesKept.onMerchant ?_ _ fun _ => hm) (h.hold.addHold fun hr => ⟨hm, hslot, fun p hp => ?_⟩)
    · exact (h.expiryPosted (card hf)).putCard hslot fun hr => ⟨(hcard hr).1, ((hcard hr).2.expire _).of_keys (by
        rw [reserveLots_keys]; exact List.Subset.refl _)⟩
    · exact ((hcard hr).2.expire _).part ((partsOf_keys _ _).subset (List.mem_map_of_mem hp))
  case captured hr hf =>
    have he := fun hr => h.hold.holds hr _ (openHold_spec hf).1
    exact (h.endHold he _).postAll fun hr => .capture fun _ => (he hr).1
  case sold hr hm _ hf _ =>
    obtain ⟨hslot, hcard⟩ := inCard (card hf)
    refine State.TablesKept.postAll ?_ fun hr => ?_
    · refine (h.expiryPosted (card hf)).putCard hslot fun hr => ⟨(hcard hr).1, ?_⟩
      refine ((hcard hr).2.expire s.today).of_keys ?_
      exact drawLots_keys _ (expireLots s.today _) ▸ (dropEmpty_keys (drawLots _ (expireLots s.today _))).subset
    · refine .append (.parts _ zero_lt_merchants fun p hp _ _ => ?_) (.capture fun _ => hm)
      exact (((hcard hr).2.expire s.today).part ((saleParts_keys _ _).subset (List.mem_map_of_mem hp))).sponsor
  case basketOpened hr hm _ =>
    exact h.withHold ⟨h.hold.holds, fun hr b hb => (List.mem_append.mp hb).elim (h.hold.baskets hr b)
      fun hb => List.mem_singleton.mp hb ▸ hm⟩
  case basketEnded hr hf hm _ =>
    exact ((h.ends hm).freeBasket _).postAll fun hr => .capture fun _ => h.hold.baskets hr _ (openBasket_spec hf).1
  case terminalCleared m t hr =>
    have hc := h.clearBaskets m t
    refine hc.endHolds fun hr e he => ?_
    obtain ⟨x, hx, rfl⟩ := List.mem_map.mp he
    exact hc.hold.holds hr x (List.mem_filter.mp hx).1
  case merchantListed hr hi _ _ => exact h.setMerchant _ fun _ => hi
  case merchantRemoved hr hi _ _ _ _ => exact h.setMerchant _ fun _ => hi
  case staged n copy hn =>
    exact ⟨h.cards, h.hold, h.merchants, h.records.watch, h.records.watchRange, tableWfD_set _ _ _ _ h.records.schedules,
      fun x hx => (mem_tableSet hx).elim (fun e => e ▸ hn) (h.records.scheduleRange x), h.records.closed, h.records.closedRange⟩
  case cutRequested => exact h.requestCut
  case periodReleased =>
    exact ⟨h.cards, h.hold, h.merchants, h.records.watch, h.records.watchRange, h.records.schedules, h.records.scheduleRange,
      List.Pairwise.nil, fun _ => nofun⟩
  case queueRead =>
    unfold State.readQueue
    dsimp only
    split
    · unfold State.completeRun
      refine State.TablesKept.event ?_ (State.deliver_event _ _)
      exact h.congr rfl rfl rfl rfl rfl rfl
    · exact h.congr rfl rfl rfl rfl rfl rfl
  case clockSet => exact h.takeRoll.congr rfl rfl rfl rfl rfl rfl
  case passStarted =>
    unfold State.startPass
    split <;> exact h.congr rfl rfl rfl rfl rfl rfl
  case formatted => exact h.formatted
  case formattedReady => exact h.formatted.becomeReady
  all_goals exact h.congr rfl rfl rfl rfl rfl rfl

theorem State.TablesKept.workOf (h : s.TablesKept r) {f : Frame} {w : Reply × State} (hw : WorkOf f s w) :
    w.2.TablesKept r := by
  rcases hw with e | ⟨q, -, rfl⟩
  · exact e ▸ h
  · obtain ⟨v, hv, he⟩ := q.work_effect s
    exact (h.flags hv).effect he

theorem State.TablesKept.ofEvent (h : s.TablesKept r) (e : Event s t) : t.TablesKept r := by
  cases e
  case nothing => exact h
  case completed _ _ hw => exact (h.workOf hw).completeRequest _ _
  case served rest w _ _ hw =>
    have ht : (s.taken rest).TablesKept r := h.congr rfl rfl rfl rfl rfl rfl
    exact (ht.workOf hw).completeTaken _ _
  case put bytes =>
    unfold State.put
    split
    · exact h
    split
    · exact h.congr rfl rfl rfl rfl rfl rfl
    · unfold State.enqueue
      split
      · exact State.TablesKept.arbitrate (h.congr rfl rfl rfl rfl rfl rfl)
      · exact h.congr rfl rfl rfl rfl rfl rfl
  case take n =>
    unfold State.take
    split
    · exact h.congr rfl rfl rfl rfl rfl rfl
    dsimp only
    split
    · exact h.congr rfl rfl rfl rfl rfl rfl
    · exact State.TablesKept.arbitrate (h.congr rfl rfl rfl rfl rfl rfl)
  case cutEdge => exact h.requestCut.arbitrate
  case edge => exact h.edge
  case divider => exact h.dividerTick
  case fallBack => exact h.fallBack
  case tick => exact h.takeTick
  case roll => exact h.takeRoll
  case lapseWork => exact (h.lapseHold _).dropLapse.completeUnit _
  case emptyBasket n rest _ _ =>
    have hb : (s.lapseBasket n).TablesKept r := h.withHold (h.hold.filterBaskets _)
    exact hb.dropLapse.completeUnit _
  case cut => exact h.cutWork.completeUnit _
  case walk => exact h.walkUnit.completeUnit _
  case trailer => exact State.TablesKept.arbitrate (h.congr rfl rfl rfl rfl rfl rfl)
  case sweep => exact h.sweepUnit.completeUnit _
  case deviceReset k b => exact h.deviceReset k b
  case mounted => exact h.completeMount.arbitrate
  case fall =>
    unfold State.startPark
    split
    · exact h.congr rfl rfl rfl rfl rfl rfl
    · split <;> exact h.congr rfl rfl rfl rfl rfl rfl
  all_goals exact h.congr rfl rfl rfl rfl rfl rfl

/-- Every step keeps the tables. -/
theorem State.TablesKept.step (h : s.TablesKept r) (hs : step s = .next t) : t.TablesKept r := by
  rcases step_cases hs with ⟨rest, e⟩ | ⟨-, rfl⟩ | rfl
  · have hp : (s.setPending rest).TablesKept r := h.congr rfl rfl rfl rfl rfl rfl
    exact hp.ofEvent e
  · exact h.mountStep
  · exact h

end

/-- Settles O4. -/
theorem stepKeepsTables : Obligations.StepKeepsTables := fun s t h hs =>
  have k : t.TablesKept s.TablesInRange := State.TablesKept.step (.of_formed h id) hs
  ⟨k.formed, k.inRange⟩

end Sys2Proof.Machine

namespace Sys2Proof.Machine

/-! ## What every card keeps -/

/-- A property of a card's lots and open-hold count that each operation on a card keeps, and that a new card has. -/
structure CardRule (P : List Lot → Nat → Prop) : Prop where
  issue : ∀ {today days day m p : Nat} {q : Option PromoIssue}, issueInRange today m p q = true →
    P (issueLots (paidKey days day) p q) 0
  expire : ∀ {lots n} (today : Option Nat), P lots n → P (expireLots today lots) n
  credit : ∀ {lots n key a}, P lots n → lotsFull key lots = false → 0 < a → P (creditLots key a lots) n
  reserve : ∀ {lots n} (a : Nat), P lots n → n < Config.holdsPerCard → P (reserveLots a lots) (n + 1)
  draw : ∀ {lots n} (a : Nat), P lots n → P (dropEmpty (drawLots a lots)) n
  ends : ∀ {lots n} (today : Option Nat) (parts : List PartEnd), P lots n → P (endLots today parts lots) (n - 1)
  restore : ∀ {lots n}, P lots n → P (lots.map Lot.restored) 0

/-- Every card has the property. -/
abbrev State.CardsHave (P : List Lot → Nat → Prop) (s : State) : Prop := ∀ e ∈ s.cards.slots, P e.2.lots e.2.openHolds

section
variable {P : List Lot → Nat → Prop} {s t : State}

theorem State.CardsHave.of_slots (h : s.CardsHave P) (e : t.cards.slots = s.cards.slots) : t.CardsHave P := by
  unfold State.CardsHave
  rwa [e]

theorem State.CardsHave.card (h : s.CardsHave P) {slot : Nat} {c : Card} (hc : s.cardAt slot = some c) :
    P c.lots c.openHolds := h _ (mem_of_tableFind hc)

theorem State.CardsHave.postAll (h : s.CardsHave P) (ps : List Posting) : (s.postAll ps).CardsHave P :=
  h.of_slots (s.postAll_slots ps)

theorem State.CardsHave.arbitrate (h : s.CardsHave P) : s.arbitrate.CardsHave P :=
  h.of_slots (congrArg CardTable.slots s.arbitrate_cards)

theorem State.CardsHave.deliver (h : s.CardsHave P) (e : EventSource) : (s.deliver e).CardsHave P :=
  h.of_slots (congrArg CardTable.slots (s.deliver_cards e))

theorem State.CardsHave.putCard (h : s.CardsHave P) (slot : Nat) {c : Card} (hc : P c.lots c.openHolds) :
    (s.putCard slot c).CardsHave P := fun e he => (mem_tableInsert he).elim (fun e => e ▸ hc) (h e)

theorem State.CardsHave.insertCard (h : s.CardsHave P) (slot : Nat) {c : Card} (hc : P c.lots c.openHolds) :
    (s.insertCard slot c).CardsHave P := h.putCard slot hc

theorem State.CardsHave.renameCard (h : s.CardsHave P) (slot o : Nat) {c : Card} (hc : P c.lots c.openHolds) :
    (s.renameCard slot o c).CardsHave P := h.putCard slot hc

theorem State.CardsHave.retireCard (h : s.CardsHave P) (slot n : Nat) : (s.retireCard slot n).CardsHave P :=
  fun e he => h e (mem_tableErase he)

theorem State.CardsHave.closingCheck (h : s.CardsHave P) (slot : Nat) {c : Card} (hc : P c.lots c.openHolds) :
    (s.closingCheck slot c).CardsHave P := by
  unfold State.closingCheck
  split
  · split
    · exact h.retireCard slot c.number
    · exact h.putCard slot hc
  · exact h.putCard slot hc

theorem State.CardsHave.endHold (r : CardRule P) (h : s.CardsHave P) (e : Hold) (taken : Nat) :
    (s.endHold e taken).CardsHave P := by
  cases hc : s.cardAt e.slot with
  | none =>
    simp only [State.endHold, State.endOnCard, hc]
    exact h
  | some c =>
    have hp : ((endPosted s e taken c).closingCheck e.slot (endedCard s e taken c)).CardsHave P :=
      (h.postAll _).closingCheck e.slot (r.ends s.today _ (h.card hc))
    exact hp.of_slots (congrArg CardTable.slots (State.endHold_cards hc taken))

theorem State.CardsHave.endHolds (r : CardRule P) (h : s.CardsHave P) (ends : List (Hold × Nat)) :
    (s.endHolds ends).CardsHave P := by
  induction ends generalizing s with
  | nil => exact h
  | cons e rest ih => exact ih (h.endHold r e.1 e.2)

theorem State.CardsHave.clearBaskets (r : CardRule P) (h : s.CardsHave P) (m t : Nat) : (s.clearBaskets m t).CardsHave P := by
  unfold State.clearBaskets
  generalize s.hold.terminalBaskets m t = bs
  induction bs generalizing s with
  | nil => exact h
  | cons b rest ih =>
    have hb : ((s.endHolds (s.releaseEnds b)).freeBasket b.number).CardsHave P := h.endHolds r _
    exact ih hb

theorem State.requestCut_cards (s : State) : s.requestCut.cards = s.cards := by
  unfold State.requestCut
  split <;> rfl

theorem State.countDay_cards (s : State) : s.countDay.cards = s.cards := by
  unfold State.countDay
  split
  · split
    · rw [State.requestCut_cards]
    · rfl
  · rfl

theorem State.takeTick_cards (s : State) : s.takeTick.cards = s.cards := by
  unfold State.takeTick
  split
  · rw [State.arbitrate_cards]
  · rfl

theorem State.takeRoll_cards (s : State) : s.takeRoll.cards = s.cards := by
  unfold State.takeRoll
  split
  · rw [State.arbitrate_cards, State.deliver_cards, State.countDay_cards]
  · rfl

theorem State.advance_cards (s : State) : s.advance.cards = s.cards :=
  (State.takeRoll_cards _).trans s.takeTick_cards

theorem State.fallBack_cards (s : State) : s.fallBack.cards = s.cards := State.advance_cards _

theorem State.edge_cards (s : State) : s.edge.cards = s.cards := by
  unfold State.edge
  split
  · exact State.advance_cards _
  · rfl
  · rfl

theorem State.dividerTick_cards (s : State) : s.dividerTick.cards = s.cards := by
  unfold State.dividerTick
  split
  · split
    · exact State.fallBack_cards _
    · rfl
  · exact State.advance_cards _
  · exact State.advance_cards _

theorem State.completeUnit_cards (s : State) (keeps : Bool) : (s.completeUnit keeps).cards = s.cards := by
  unfold State.completeUnit
  rw [State.arbitrate_cards]
  split <;> rfl

theorem State.readQueue_cards (s : State) : s.readQueue.cards = s.cards := by
  unfold State.readQueue State.completeRun
  dsimp only
  split
  · rw [State.deliver_cards]
  · rfl

theorem State.cutWork_cards (s : State) : s.cutWork.cards = s.cards := by
  unfold State.cutWork State.takeCut State.deferCut
  split
  · rw [State.deliver_cards, State.raiseIf_cards]
  · rw [State.deliver_cards]

theorem State.walkUnit_cards (s : State) : s.walkUnit.cards = s.cards := by
  unfold State.walkUnit
  split <;> rfl

theorem State.CardsHave.visit (r : CardRule P) (h : s.CardsHave P) (slot : Nat) : (s.visit slot).CardsHave P := by
  unfold State.visit
  split
  · exact h
  · next c hc =>
    dsimp only
    split
    · exact (h.postAll _).retireCard _ _
    · exact (h.postAll _).putCard _ (r.expire s.today (h.card hc))

theorem State.CardsHave.sweepUnit (r : CardRule P) (h : s.CardsHave P) : s.sweepUnit.CardsHave P := by
  have visits : ∀ (slots : List Nat) {s : State}, s.CardsHave P → (slots.foldl State.visit s).CardsHave P := fun slots => by
    induction slots with
    | nil => exact fun h => h
    | cons j rest ih => exact fun h => ih (h.visit r j)
  have hv := visits s.sweepVisits h
  unfold State.sweepUnit
  dsimp only
  split
  · unfold State.endPass
    refine State.CardsHave.deliver ?_ _
    split <;> exact hv
  · exact hv

theorem State.CardsHave.mountCard (r : CardRule P) (h : s.CardsHave P) (slot : Nat) : (s.mountCard slot).CardsHave P := by
  unfold State.mountCard
  split
  · exact h
  · next c hc =>
    have hr : P (c.lots.map Lot.restored) 0 := r.restore (h.card hc)
    exact (h.insertCard slot hr).closingCheck slot hr

theorem State.mountTotals_slots (s : State) : s.mountTotals.cards.slots = s.cards.slots := by
  have sponsors : ∀ (lots : List Lot) (is : List Nat) (u : State), (is.foldl (State.mountSponsor lots) u).cards = u.cards :=
    fun lots is => by
      induction is with
      | nil => exact fun _ => rfl
      | cons i rest ih => exact fun u => ih _
  unfold State.mountTotals
  rw [sponsors]

theorem State.mountSnapshot_cards (s : State) : s.mountSnapshot.cards = s.cards := by
  unfold State.mountSnapshot
  split <;> rfl

theorem State.requestExpiredCut_cards (s : State) : s.requestExpiredCut.cards = s.cards := by
  unfold State.requestExpiredCut
  split <;> rfl

theorem State.CardsHave.mountStep (r : CardRule P) (h : s.CardsHave P) : s.mountStep.CardsHave P := by
  unfold State.mountStep
  split
  · exact h
  · split
    · exact h.mountCard r _
    · exact h
  · exact h.of_slots s.mountTotals_slots
  · exact h
  · exact h.of_slots (congrArg CardTable.slots s.mountSnapshot_cards)
  · exact h

theorem State.CardsHave.mountCards (r : CardRule P) (slots : List Nat) (h : s.CardsHave P) :
    (slots.foldl State.mountCard s).CardsHave P := by
  induction slots generalizing s with
  | nil => exact h
  | cons j rest ih => exact ih (h.mountCard r j)

theorem State.mountAll_slots (s : State) :
    s.mountAll.cards.slots = ((s.cards.slots.map (·.1)).foldl State.mountCard s.mountSettings).cards.slots := by
  unfold State.mountAll State.setMount
  dsimp only
  rw [State.mountSnapshot_cards]
  exact State.mountTotals_slots _

theorem State.completeMount_slots (s : State) :
    s.completeMount.cards.slots = ((s.cards.slots.map (·.1)).foldl State.mountCard s.mountSettings).cards.slots := by
  unfold State.completeMount
  dsimp only
  rw [State.raiseIf_cards, State.requestExpiredCut_cards]
  exact s.mountAll_slots

theorem State.CardsHave.completeMount (r : CardRule P) (h : s.CardsHave P) : s.completeMount.CardsHave P := by
  have hm : s.mountSettings.CardsHave P := h
  have hc : s.completeMount.cards.slots = ((s.cards.slots.map (·.1)).foldl State.mountCard s.mountSettings).cards.slots :=
    s.completeMount_slots
  exact (hm.mountCards r _).of_slots hc

theorem State.CardsHave.effect (r : CardRule P) (h : s.CardsHave P) (e : Effect s t) : t.CardsHave P := by
  have found : ∀ {n slot c}, s.lookup n = some (slot, c) → P (expireLots s.today c.lots) c.openHolds :=
    fun hf => r.expire s.today (h.card (State.cardAt_of_lookup hf))
  cases e
  case issued hr hv hrange _ _ _ _ _ => exact (h.insertCard _ (r.issue hrange)).postAll _
  case loaded hrange _ _ hf _ hroom =>
    exact ((h.postAll _).putCard _ (r.credit (found hf) hroom (loadInRange_spec hrange).2.1.1)).postAll _
  case refunded ha _ hf _ hroom =>
    exact ((h.postAll _).putCard _ (r.credit (found hf) hroom (amountInRange_iff.mp ha).1)).postAll _
  case restated hf => exact (h.postAll _).putCard _ (found hf)
  case retired => exact (h.postAll _).retireCard _ _
  case replaced hf _ _ _ => exact (h.postAll _).renameCard _ _ (found hf)
  case authorized hf _ hfew _ _ _ => exact (h.postAll _).putCard _ (r.reserve _ (found hf) hfew)
  case captured => exact (h.endHold r _ _).postAll _
  case sold hf _ => exact ((h.postAll _).putCard _ (r.draw _ (found hf))).postAll _
  case basketEnded n _ _ ends _ _ _ _ =>
    have hb : ((s.endHolds ends).freeBasket n).CardsHave P := h.endHolds r ends
    exact hb.postAll _
  case terminalCleared => exact (h.clearBaskets r _ _).endHolds r _
  case cutRequested => exact h.of_slots (congrArg CardTable.slots s.requestCut_cards)
  case queueRead => exact h.of_slots (congrArg CardTable.slots s.readQueue_cards)
  case clockSet => exact h.of_slots (congrArg CardTable.slots s.takeRoll_cards)
  case passStarted =>
    unfold State.startPass
    split <;> exact h
  case formatted | formattedReady => exact nofun
  all_goals exact h

theorem State.CardsHave.workOf (r : CardRule P) (h : s.CardsHave P) {f : Frame} {w : Reply × State} (hw : WorkOf f s w) :
    w.2.CardsHave P := by
  rcases hw with e | ⟨q, -, rfl⟩
  · exact e ▸ h
  · obtain ⟨v, hv, he⟩ := q.work_effect s
    have hv' : v.CardsHave P := h.of_slots (by rw [hv.eq])
    exact hv'.effect r he

theorem State.CardsHave.ofEvent (r : CardRule P) (h : s.CardsHave P) (e : Event s t) : t.CardsHave P := by
  have unit : ∀ {u : State} (keeps : Bool), u.CardsHave P → (u.completeUnit keeps).CardsHave P :=
    fun keeps hu => hu.of_slots (congrArg CardTable.slots (State.completeUnit_cards _ keeps))
  cases e
  case completed _ _ hw =>
    unfold State.completeRequest
    refine unit false ?_
    split <;> exact h.workOf r hw
  case served rest w _ _ hw =>
    have ht : (s.taken rest).CardsHave P := h
    exact State.CardsHave.arbitrate (ht.workOf r hw)
  case put bytes =>
    unfold State.put State.enqueue
    split
    · exact h
    split
    · exact h
    split
    · exact State.CardsHave.arbitrate h
    · exact h
  case take n =>
    unfold State.take
    dsimp only
    split
    · exact h
    split
    · exact h
    · exact State.CardsHave.arbitrate h
  case cutEdge => exact State.CardsHave.arbitrate (h.of_slots (congrArg CardTable.slots s.requestCut_cards))
  case edge => exact h.of_slots (congrArg CardTable.slots s.edge_cards)
  case divider => exact h.of_slots (congrArg CardTable.slots s.dividerTick_cards)
  case fallBack => exact h.of_slots (congrArg CardTable.slots s.fallBack_cards)
  case tick => exact h.of_slots (congrArg CardTable.slots s.takeTick_cards)
  case roll => exact h.of_slots (congrArg CardTable.slots s.takeRoll_cards)
  case lapseWork n rest _ _ =>
    refine unit false ?_
    show (s.lapseHold n).CardsHave P
    unfold State.lapseHold
    split
    · exact h
    · exact h.endHold r _ _
  case emptyBasket => exact unit false h
  case cut =>
    refine unit false ?_
    exact h.of_slots (congrArg CardTable.slots s.cutWork_cards)
  case walk =>
    exact unit _ (h.of_slots (congrArg CardTable.slots s.walkUnit_cards))
  case trailer => exact State.CardsHave.arbitrate h
  case sweep => exact unit _ (h.sweepUnit r)
  case mounted => exact (h.completeMount r).arbitrate
  case fall =>
    unfold State.startPark
    split
    · exact h
    · split <;> exact h
  all_goals exact h

theorem State.CardsHave.step (r : CardRule P) (h : s.CardsHave P) (hs : step s = .next t) : t.CardsHave P := by
  rcases step_cases hs with ⟨rest, e⟩ | ⟨-, rfl⟩ | rfl
  · have hp : (s.setPending rest).CardsHave P := h
    exact hp.ofEvent r e
  · exact h.mountStep r
  · exact h

end

/-- A card has at most six lots and at most eight holds (R8, R15). -/
theorem cardRule_capacity :
    CardRule fun lots n => lots.length ≤ Config.lotsPerCard ∧ n ≤ Config.holdsPerCard where
  issue h := ⟨(issueLots_formed _ _ h).few, Nat.zero_le _⟩
  expire today h := ⟨(length_le_of_keys (expireLots_keys today _)).trans h.1, h.2⟩
  credit h hf _ := by
    refine ⟨?_, h.2⟩
    rw [creditLots_length]
    split
    · exact h.1
    · next hk => simpa [lotsFull, hk] using hf
  reserve a h hn := ⟨(reserveLots_length a _).trans_le h.1, hn⟩
  draw {lots} _ a h := ⟨(length_le_of_keys (drawLots_keys a lots ▸ dropEmpty_keys (drawLots a lots))).trans h.1, h.2⟩
  ends today parts h := ⟨(length_le_of_keys (endLots_keys today parts _)).trans h.1, (Nat.sub_le _ _).trans h.2⟩
  restore h := ⟨by simpa using h.1, Nat.zero_le _⟩

/-- The lots of a card are formed (R6 to R9). -/
theorem cardRule_formed : CardRule fun lots _ => LotsFormed lots where
  issue h := issueLots_formed _ _ h
  expire today h := expireLots_formed today _ h
  credit h hf ha := creditLots_formed h ha hf
  reserve a h _ := reserveLots_formed a h
  draw a h := drawLots_formed a h
  ends today parts h := endLots_formed today parts h
  restore h := restored_formed h

/-- Every step keeps every card's lots formed. -/
theorem State.LotsKept.step {s t : State} (h : s.LotsKept) (hs : step s = .next t) : t.LotsKept :=
  State.CardsHave.step cardRule_formed h hs

end Sys2Proof.Machine

namespace Sys2Proof.Machine

/-! ## Requests served without a grant (R178) -/

/-- What the work of a request that needs no grant leaves. -/
inductive Served (s : State) : State → Prop where
  | nothing : Served s s
  | causeRead : Served s { s with link := { s.link with resetCause := .none } }
  | conditionsCleared (set : BitVec 16) : Served s (s.clearConditions set)
  | queueRead : Served s s.readQueue
  | flagged (b : Bool) : Served s { s with payout := { s.payout with holdFlag := b } }
  | routed (e : EventSource) (d : Destination) :
      Served s { s with routes := s.routes.set e d, storedRoutes := s.storedRoutes.set e d }

/-- A test that refuses leaves the state; passed, the work decides. -/
theorem Served.whenReady {s : State} {work : State → Reply × State} (h : Served s (work s).2) :
    Served s (Machine.whenReady work s).2 := by
  unfold Machine.whenReady
  split
  · exact h
  · exact .nothing

theorem routeSetUnit_served (p : Option (Nat × Nat)) (s : State) : Served s (routeSetUnit p s).2 := by
  refine .whenReady ?_
  split
  · exact .nothing
  · split
    · exact .routed _ _
    · exact .nothing

/-- In a store that is not READY, work that waits for READY leaves the state. -/
theorem Served.unready {s : State} (h : s.store.state ≠ .ready) {work : State → Reply × State} :
    Served s (Machine.whenReady work s).2 := by
  rw [whenReady_not work h]
  exact .nothing

theorem Request.work_unready (r : Request) {s : State} (h : s.store.state ≠ .ready)
    (hf : r.kind = .format → s.store.state ≠ .unformatted) : Served s (r.work s).2 := by
  cases r
  case status => exact .causeRead
  case configRead =>
    show Served s (configReadUnit s).2
    unfold configReadUnit
    split <;> exact .nothing
  case format =>
    show Served s (formatUnit s).2
    unfold formatUnit
    split
    · next hu => exact absurd hu (hf rfl)
    all_goals exact .nothing
  case periodStatus => exact Served.unready h (work := fun s => (⟨.ok, s.periodBody⟩, s))
  all_goals exact .unready h

/-- A request whose frame needs no grant changes neither records nor the engine's queues, but for the payout queue. -/
theorem Request.work_served {f : Frame} {r : Request} {s : State} (hr : f.request = some r)
    (hg : s.frameNeedsGrant f = false) : Served s (r.work s).2 := by
  simp only [State.frameNeedsGrant, Frame.kind_of_request hr] at hg
  by_cases hready : s.store.state = .ready
  · simp only [hready] at hg
    cases r
    case status => exact .causeRead
    case statusClear => exact .whenReady (.conditionsCleared _)
    case payoutRead => exact .whenReady .queueRead
    case routeSet => exact routeSetUnit_served ..
    case walkersHold => exact .whenReady (.flagged true)
    case walkersResume => exact .whenReady (.flagged false)
    case format =>
      show Served s (formatUnit s).2
      unfold formatUnit
      split
      · next hu => exact absurd (hready.symm.trans hu) (by decide)
      all_goals exact .nothing
    all_goals cases hg
  · refine r.work_unready hready fun hk hu => ?_
    simp [hu, hk, hr] at hg

/-! ## The queues of the link and of the Payout Walker (R145, R149, R186, R187) -/

/-- The link's queues and the payout queue are within their capacities, with the places that a request and a walk unit in
progress need. -/
structure State.QueuesFit (s : State) : Prop where
  intake : s.link.intake.length ≤ Config.intakePlaces
  answers : s.link.answers.length ≤ Config.answerPlaces
  answerFree : s.engine.current ≠ none → s.link.answers.length < Config.answerPlaces
  payout : s.payout.queue.length ≤ Config.payoutPlaces
  recordFree : s.arbiter.holder = some .payoutWalker →
    s.payout.queue.length < Config.payoutPlaces ∧ s.payout.run.position < Config.merchants
  position : s.payout.run.position ≤ Config.merchants

/-- No queue is longer, no request and no walk unit has come in progress, and the run's position is the same or at its start. -/
structure State.QueuesLower (s t : State) : Prop where
  intake : t.link.intake.length ≤ s.link.intake.length
  answers : t.link.answers.length ≤ s.link.answers.length
  current : t.engine.current ≠ none → s.engine.current ≠ none
  payout : t.payout.queue.length ≤ s.payout.queue.length
  holder : t.arbiter.holder = some .payoutWalker → s.arbiter.holder = some .payoutWalker
  position : t.payout.run.position = s.payout.run.position ∨ t.payout.run.position = 0

section
variable {s t u : State}

theorem State.QueuesFit.lower (h : s.QueuesFit) (k : s.QueuesLower t) : t.QueuesFit := by
  have hp : t.payout.run.position ≤ s.payout.run.position := by
    rcases k.position with e | e <;> omega
  exact ⟨k.intake.trans h.intake, k.answers.trans h.answers, fun hc => k.answers.trans_lt (h.answerFree (k.current hc)),
    k.payout.trans h.payout,
    fun hh => ⟨k.payout.trans_lt (h.recordFree (k.holder hh)).1, hp.trans_lt (h.recordFree (k.holder hh)).2⟩,
    hp.trans h.position⟩

theorem State.QueuesLower.trans (h : s.QueuesLower t) (k : t.QueuesLower u) : s.QueuesLower u := by
  refine ⟨k.intake.trans h.intake, k.answers.trans h.answers, fun hc => h.current (k.current hc), k.payout.trans h.payout,
    fun hh => h.holder (k.holder hh), ?_⟩
  rcases k.position with e | e
  · exact e ▸ h.position
  · exact .inr e

/-- A change that leaves the queues, the engine, the arbiter and the run. -/
theorem State.QueuesLower.same (hi : t.link.intake = s.link.intake) (ha : t.link.answers = s.link.answers)
    (he : t.engine = s.engine) (hb : t.arbiter = s.arbiter) (hp : t.payout = s.payout) : s.QueuesLower t :=
  ⟨(congrArg List.length hi).le, (congrArg List.length ha).le, by simp [he], by simp [hp], by simp [hb], by simp [hp]⟩

theorem State.QueuesLower.refl (s : State) : s.QueuesLower s := .same rfl rfl rfl rfl rfl

theorem State.QueuesLower.raiseIf (s : State) (b : Bool) (c : Condition) : s.QueuesLower (s.raiseIf b c) := by
  cases b <;> exact .same rfl rfl rfl rfl rfl

theorem State.QueuesLower.startRun (s : State) : s.QueuesLower s.startRun := ⟨le_rfl, le_rfl, id, le_rfl, id, .inr rfl⟩

theorem State.QueuesLower.startPass (s : State) : s.QueuesLower s.startPass := by
  unfold State.startPass
  split <;> exact .same rfl rfl rfl rfl rfl

theorem State.QueuesLower.deliver (s : State) (e : EventSource) : s.QueuesLower (s.deliver e) := by
  unfold State.deliver
  split
  · exact .refl s
  · exact .same rfl rfl rfl rfl rfl
  · unfold State.routedPassStart
    split
    · exact .startPass s
    · exact .refl s
  · unfold State.routedRunStart
    split
    · exact .startRun s
    · exact .refl s

theorem State.QueuesLower.postAll (s : State) (ps : List Posting) : s.QueuesLower (s.postAll ps) := by
  rw [(s.postAll_money ps).eq]
  exact .same rfl rfl rfl rfl rfl

theorem State.QueuesLower.requestCut (s : State) : s.QueuesLower s.requestCut := by
  unfold State.requestCut
  split <;> exact .same rfl rfl rfl rfl rfl

theorem State.QueuesLower.countDay (s : State) : s.QueuesLower s.countDay := by
  unfold State.countDay
  split
  · split
    · refine .trans ?_ (.requestCut _)
      exact .same rfl rfl rfl rfl rfl
    · exact .same rfl rfl rfl rfl rfl
  · exact .refl s

theorem State.QueuesLower.holds (h : s.HoldsOnly t) : s.QueuesLower t := by
  rw [show t = _ from h]
  exact .same rfl rfl rfl rfl rfl

theorem State.QueuesLower.endHold (s : State) (h : Hold) (taken : Nat) : s.QueuesLower (s.endHold h taken) :=
  .holds (s.endHold_only h taken)

theorem State.QueuesLower.endHolds (s : State) (ends : List (Hold × Nat)) : s.QueuesLower (s.endHolds ends) := by
  induction ends generalizing s with
  | nil => exact .refl s
  | cons e rest ih => exact .trans (.endHold s e.1 e.2) (ih _)

theorem State.QueuesLower.freeBasket (s : State) (n : Nat) : s.QueuesLower (s.freeBasket n) := .same rfl rfl rfl rfl rfl

theorem State.QueuesLower.clearBaskets (s : State) (m t : Nat) : s.QueuesLower (s.clearBaskets m t) := by
  unfold State.clearBaskets
  generalize s.hold.terminalBaskets m t = bs
  induction bs generalizing s with
  | nil => exact .refl s
  | cons b rest ih => exact ((State.QueuesLower.endHolds s _).trans (.freeBasket _ b.number)).trans (ih _)

theorem State.QueuesLower.readQueue (s : State) : s.QueuesLower s.readQueue := by
  have removed : ∀ {t : State}, t.link = s.link → t.engine = s.engine → t.arbiter = s.arbiter →
      t.payout.queue = s.payout.queue.drop Config.payoutReadMost →
      t.payout.run.position = s.payout.run.position ∨ t.payout.run.position = 0 → s.QueuesLower t :=
    fun hl he hb hq hp => ⟨by rw [hl], by rw [hl], by rw [he]; exact id, by rw [hq, List.length_drop]; omega,
      by rw [hb]; exact id, hp⟩
  unfold State.readQueue State.completeRun
  dsimp only
  have hp : (if s.payout.run.state = .stalled ∧ s.payout.queue.take Config.payoutReadMost ≠ [] then
      { s.payout.run with state := RunState.walking } else s.payout.run).position = s.payout.run.position := by
    split <;> rfl
  split
  · refine .trans (removed ?_ ?_ ?_ ?_ ?_) (.deliver _ _)
    case _ => rfl
    case _ => rfl
    case _ => rfl
    case _ => rfl
    exact .inr rfl
  · exact removed rfl rfl rfl rfl (.inl hp)

/-- The arbiter grants the store to a claimant that has its place: a request its answer's, a walk unit its record's. -/
theorem State.QueuesFit.arbitrate (h : s.QueuesFit) : s.arbitrate.QueuesFit := by
  unfold State.arbitrate
  split
  · exact h
  split
  · exact h
  · next hn c hc =>
    have hclaim := (State.grantee_may hc).1
    unfold State.grant
    split
    · next e =>
      subst e
      have hplace : s.link.answers.length < Config.answerPlaces := by
        simp only [State.claims, State.answerPlace, Bool.and_eq_true, decide_eq_true_eq] at hclaim
        exact hclaim.2
      exact ⟨by simpa [State.takeOldest] using (Nat.sub_le _ _).trans h.intake, h.answers, fun _ => hplace, h.payout,
        nofun, h.position⟩
    · refine ⟨h.intake, h.answers, h.answerFree, h.payout, fun hh => ?_, h.position⟩
      obtain rfl := Option.some.inj hh
      simp only [State.claims, State.walkerClaims, Bool.and_eq_true, decide_eq_true_eq] at hclaim
      exact ⟨hclaim.1.2, hclaim.1.1.2⟩

theorem State.QueuesFit.completeUnit (h : s.QueuesFit) (keeps : Bool) : (s.completeUnit keeps).QueuesFit := by
  unfold State.completeUnit
  refine State.QueuesFit.arbitrate (h.lower ?_)
  cases keeps
  · exact ⟨le_rfl, le_rfl, id, le_rfl, fun hh => (by cases hh), .inl rfl⟩
  · exact .same rfl rfl rfl rfl rfl

theorem State.QueuesFit.takeTick (h : s.QueuesFit) : s.takeTick.QueuesFit := by
  unfold State.takeTick
  split
  · exact State.QueuesFit.arbitrate (h.lower (.same rfl rfl rfl rfl rfl))
  · exact h.lower (.same rfl rfl rfl rfl rfl)

/-- A day roll, but for the arbiter's act. -/
theorem State.QueuesLower.rolled (s : State) : s.QueuesLower (({ s with
    clock := { s.clock with day := min (s.clock.day + 1) Config.dayMax, rollDue := false } }.countDay).deliver .dayRoll) := by
  refine .trans (.trans ?_ (.countDay _)) (.deliver _ _)
  exact .same rfl rfl rfl rfl rfl

theorem State.QueuesFit.takeRoll (h : s.QueuesFit) : s.takeRoll.QueuesFit := by
  unfold State.takeRoll
  split
  · exact (h.lower (.rolled s)).arbitrate
  · exact h

/-- While a unit holds the store, a day roll brings in no other. -/
theorem State.QueuesLower.takeRoll (hh : s.arbiter.holder ≠ none) : s.QueuesLower s.takeRoll := by
  unfold State.takeRoll
  split
  · rw [State.arbitrate_of_held]
    · exact .rolled s
    · have hd : ∀ u : State, u.countDay.arbiter = u.arbiter := fun u => by
        unfold State.countDay State.requestCut
        split
        · split
          · split <;> rfl
          · rfl
        · rfl
      rw [State.deliver_arbiter, hd]
      exact hh
  · exact .refl s

theorem State.QueuesFit.advance (h : s.QueuesFit) : s.advance.QueuesFit :=
  h.takeTick.takeRoll.lower (.same rfl rfl rfl rfl rfl)

theorem State.QueuesFit.fallBack (h : s.QueuesFit) : s.fallBack.QueuesFit :=
  State.QueuesFit.advance (h.lower (.same rfl rfl rfl rfl rfl))

theorem State.QueuesFit.setDivider (h : s.QueuesFit) (n : Nat) : (s.setDivider n).QueuesFit :=
  h.lower (.same rfl rfl rfl rfl rfl)

theorem State.QueuesFit.edge (h : s.QueuesFit) : s.edge.QueuesFit := by
  unfold State.edge
  split
  · exact (h.setDivider 0).advance
  · exact h.lower (.same rfl rfl rfl rfl rfl)
  · exact h.setDivider 0

theorem State.QueuesFit.dividerTick (h : s.QueuesFit) : s.dividerTick.QueuesFit := by
  unfold State.dividerTick
  split
  · split
    · exact h.fallBack
    · exact h.setDivider _
  · exact (h.setDivider _).advance
  · exact (h.setDivider _).advance

theorem State.QueuesLower.flags (k : s.FlagsOnly t) : s.QueuesLower t := by
  rw [k.eq]
  exact .same rfl rfl rfl rfl rfl

/-- The work of a request under its grant. -/
theorem Effect.queues (e : Effect s t) (hh : s.arbiter.holder ≠ none) : s.QueuesLower t := by
  have put : ∀ {u : State} {c : CardTable}, s.QueuesLower u → s.QueuesLower { u with cards := c } :=
    fun hu => hu.trans (.same rfl rfl rfl rfl rfl)
  cases e
  case nothing => exact .refl s
  case issued =>
    refine .trans ?_ (.postAll _ _)
    exact .same rfl rfl rfl rfl rfl
  case loaded c _ _ _ _ _ _ _ => exact (put (.postAll s (lotsPostings s.today c.lots))).trans (.postAll _ _)
  case refunded => exact (put (.postAll s _)).trans (.postAll _ _)
  case restated => exact put (.postAll s _)
  case retired => exact put (.postAll s _)
  case replaced => exact put (.postAll s _)
  case authorized => exact (State.QueuesLower.postAll s _).trans (.same rfl rfl rfl rfl rfl)
  case captured => exact (State.QueuesLower.endHold s _ _).trans (.postAll _ _)
  case sold => exact (put (.postAll s _)).trans (.postAll _ _)
  case basketEnded => exact ((State.QueuesLower.endHolds s _).trans (.freeBasket _ _)).trans (.postAll _ _)
  case terminalCleared => exact (State.QueuesLower.clearBaskets s _ _).trans (.endHolds _ _)
  case cutRequested => exact .requestCut s
  case runStarted => exact .startRun s
  case queueRead => exact .readQueue s
  case runAborted => exact ⟨le_rfl, le_rfl, id, Nat.zero_le _, id, .inr rfl⟩
  case flagged => exact ⟨le_rfl, le_rfl, id, le_rfl, id, .inl rfl⟩
  case clockSet => exact (State.QueuesLower.takeRoll hh).trans (.same rfl rfl rfl rfl rfl)
  case passStarted => exact .startPass s
  all_goals exact .same rfl rfl rfl rfl rfl

theorem Served.queues (e : Served s t) : s.QueuesLower t := by
  cases e
  case nothing => exact .refl s
  case queueRead => exact .readQueue s
  case flagged => exact ⟨le_rfl, le_rfl, id, le_rfl, id, .inl rfl⟩
  all_goals exact .same rfl rfl rfl rfl rfl

/-! ### Every step -/

/-- A walk unit takes one place of the payout queue and moves the run's position by one. -/
theorem State.QueuesFit.walkUnit (h : s.QueuesFit) (hh : s.arbiter.holder = some .payoutWalker) :
    (s.walkUnit.completeUnit s.walkUnit.walkerKeeps).QueuesFit := by
  have visited : ∀ c, (s.payout.visit c).queue.length ≤ s.payout.queue.length + 1 ∧
      (s.payout.visit c).run.position = s.payout.run.position + 1 := fun c => by
    unfold Payout.visit
    split <;> simp [Run.counted]
  have hw : s.walkUnit.payout.queue.length ≤ Config.payoutPlaces ∧ s.walkUnit.payout.run.position ≤ Config.merchants := by
    obtain ⟨hq, hp⟩ := h.recordFree hh
    unfold State.walkUnit
    split
    · obtain ⟨h1, h2⟩ := visited (s.period.snapshot.closedAt s.payout.run.position)
      exact ⟨h1.trans hq, h2.trans_le hp⟩
    · exact ⟨h.payout, h.position⟩
  have hl : s.walkUnit.link = s.link ∧ s.walkUnit.engine = s.engine := by
    unfold State.walkUnit
    split <;> exact ⟨rfl, rfl⟩
  obtain ⟨hlink, hengine⟩ := hl
  have fits : (s.walkUnit.arbiter.holder = some .payoutWalker →
      s.walkUnit.payout.queue.length < Config.payoutPlaces ∧ s.walkUnit.payout.run.position < Config.merchants) →
      s.walkUnit.QueuesFit := fun hr =>
    ⟨hlink ▸ h.intake, hlink ▸ h.answers, fun hc => hlink ▸ h.answerFree (hengine ▸ hc), hw.1, hr, hw.2⟩
  cases hk : s.walkUnit.walkerKeeps with
  | true =>
    refine State.QueuesFit.completeUnit (fits fun _ => ?_) true
    simp only [State.walkerKeeps, State.walkerClaims, Bool.and_eq_true, decide_eq_true_eq] at hk
    exact ⟨hk.1.2.1.2, hk.1.2.1.1.2⟩
  | false =>
    unfold State.completeUnit
    refine State.QueuesFit.arbitrate ?_
    exact ⟨hlink ▸ h.intake, hlink ▸ h.answers, fun hc => hlink ▸ h.answerFree (hengine ▸ hc), hw.1,
      fun hh => (by cases hh), hw.2⟩

/-- The trailer is appended when there is a place for it, after the last walk unit. -/
theorem State.QueuesFit.appendTrailer (h : s.QueuesFit) (hd : s.trailerDue = true) : s.appendTrailer.QueuesFit := by
  simp only [State.trailerDue, Bool.and_eq_true, decide_eq_true_eq] at hd
  obtain ⟨⟨⟨⟨⟨-, hp⟩, -⟩, hq⟩, -⟩, -⟩ := hd
  refine ⟨h.intake, h.answers, h.answerFree, ?_, fun hh => ?_, h.position⟩
  · simpa [State.appendTrailer] using hq
  · have := (h.recordFree hh).2
    omega

theorem State.QueuesFit.completeRequest (h : s.QueuesFit) (f : Frame) (r : Reply) (hc : s.link.answers.length < Config.answerPlaces) :
    (s.completeRequest f r).QueuesFit := by
  unfold State.completeRequest
  refine State.QueuesFit.completeUnit ?_ false
  split
  · exact ⟨h.intake, h.answers, nofun, h.payout, h.recordFree, h.position⟩
  · exact ⟨h.intake, by simpa [State.answer] using hc, nofun, h.payout, h.recordFree, h.position⟩

theorem State.QueuesLower.visit (s : State) (slot : Nat) : s.QueuesLower (s.visit slot) := by
  unfold State.visit
  split
  · exact .refl s
  · dsimp only
    split <;> exact (State.QueuesLower.postAll s _).trans (.same rfl rfl rfl rfl rfl)

theorem State.QueuesLower.sweepUnit (s : State) : s.QueuesLower s.sweepUnit := by
  have visits : ∀ (slots : List Nat) (u : State), u.QueuesLower (slots.foldl State.visit u) := fun slots => by
    induction slots with
    | nil => exact .refl
    | cons j rest ih => exact fun u => (State.QueuesLower.visit u j).trans (ih _)
  unfold State.sweepUnit
  dsimp only
  split
  · refine (visits s.sweepVisits s).trans ?_
    unfold State.endPass
    refine .trans ?_ (.deliver _ _)
    split <;> exact .same rfl rfl rfl rfl rfl
  · exact (visits s.sweepVisits s).trans (.same rfl rfl rfl rfl rfl)

theorem State.QueuesLower.cutWork (s : State) : s.QueuesLower s.cutWork := by
  unfold State.cutWork State.takeCut State.deferCut
  split
  · refine .trans (.trans ?_ (.raiseIf _ _ _)) (.deliver _ _)
    exact .same rfl rfl rfl rfl rfl
  · refine .trans ?_ (.deliver _ _)
    exact .same rfl rfl rfl rfl rfl

theorem State.QueuesLower.lapseHold (s : State) (n : Nat) : s.QueuesLower (s.lapseHold n) := by
  unfold State.lapseHold
  split
  · exact .refl s
  · exact .endHold s _ _

theorem State.QueuesLower.mountCard (s : State) (slot : Nat) : s.QueuesLower (s.mountCard slot) := by
  unfold State.mountCard
  split
  · exact .refl s
  · dsimp only
    rw [State.closingCheck_cards]
    exact .same rfl rfl rfl rfl rfl

theorem State.QueuesLower.mountTotals (s : State) : s.QueuesLower s.mountTotals := by
  have sponsors : ∀ (lots : List Lot) (is : List Nat) (u : State), u.QueuesLower (is.foldl (State.mountSponsor lots) u) :=
    fun lots is => by
      induction is with
      | nil => exact .refl
      | cons i rest ih =>
        intro u
        have hi : u.QueuesLower (State.mountSponsor lots u i) := .same rfl rfl rfl rfl rfl
        exact hi.trans (ih _)
  unfold State.mountTotals
  refine .trans ?_ (sponsors _ _ _)
  exact .same rfl rfl rfl rfl rfl

theorem State.QueuesLower.mountSnapshot (s : State) : s.QueuesLower s.mountSnapshot := by
  unfold State.mountSnapshot
  split <;> exact .same rfl rfl rfl rfl rfl

theorem State.QueuesLower.setMount (s : State) (m : MountStage) : s.QueuesLower (s.setMount m) := .same rfl rfl rfl rfl rfl

theorem State.QueuesLower.mountSettings (s : State) : s.QueuesLower s.mountSettings := .same rfl rfl rfl rfl rfl

theorem State.QueuesLower.mountMerchants (s : State) : s.QueuesLower s.mountMerchants := .same rfl rfl rfl rfl rfl

theorem State.QueuesLower.mountStep (s : State) : s.QueuesLower s.mountStep := by
  unfold State.mountStep
  split
  · exact (State.QueuesLower.mountSettings s).trans (.setMount _ _)
  · split
    · exact (State.QueuesLower.mountCard s _).trans (.setMount _ _)
    · exact .setMount s _
  · exact (State.QueuesLower.mountTotals s).trans (.setMount _ _)
  · exact (State.QueuesLower.mountMerchants s).trans (.setMount _ _)
  · exact (State.QueuesLower.mountSnapshot s).trans (.setMount _ _)
  · exact .refl s

theorem State.QueuesLower.mountAll (s : State) : s.QueuesLower s.mountAll := by
  have cards : ∀ (slots : List Nat) (u : State), u.QueuesLower (slots.foldl State.mountCard u) := fun slots => by
    induction slots with
    | nil => exact .refl
    | cons j rest ih => exact fun u => (State.QueuesLower.mountCard u j).trans (ih _)
  refine .trans ?_ (.setMount _ _)
  refine .trans ?_ (.mountSnapshot _)
  refine .trans ?_ (.mountMerchants _)
  refine .trans ?_ (.mountTotals _)
  exact (State.QueuesLower.mountSettings s).trans (cards _ _)

theorem State.QueuesLower.requestExpiredCut (s : State) : s.QueuesLower s.requestExpiredCut := by
  unfold State.requestExpiredCut
  split <;> exact .same rfl rfl rfl rfl rfl

theorem State.QueuesLower.becomeReady (s : State) : s.QueuesLower s.becomeReady := .same rfl rfl rfl rfl rfl

theorem State.QueuesLower.completeMount (s : State) : s.QueuesLower s.completeMount := by
  unfold State.completeMount
  refine .trans ?_ (.raiseIf _ _ _)
  refine .trans ?_ (.requestExpiredCut _)
  exact (State.QueuesLower.mountAll s).trans (.becomeReady _)

theorem WorkOf.queues {f : Frame} {w : Reply × State} (hw : WorkOf f s w) (hh : s.arbiter.holder ≠ none) :
    s.QueuesLower w.2 := by
  rcases hw with e | ⟨q, -, rfl⟩
  · exact e ▸ .refl s
  · obtain ⟨v, hv, he⟩ := q.work_effect s
    refine (State.QueuesLower.flags hv).trans (he.queues ?_)
    rw [hv.eq]
    exact hh

theorem WorkOf.served {f : Frame} {w : Reply × State} (hw : WorkOf f s w) (hg : s.frameNeedsGrant f = false) :
    Served s w.2 := by
  rcases hw with e | ⟨q, hq, rfl⟩
  · exact e ▸ .nothing
  · exact Request.work_served hq hg

theorem Served.engine (e : Served s t) : t.engine = s.engine := by
  cases e
  case queueRead =>
    unfold State.readQueue State.completeRun
    dsimp only
    split
    · rw [State.deliver_engine]
    · rfl
  all_goals rfl

theorem State.QueuesFit.ofEvent (h : s.QueuesFit) (e : Event s t) : t.QueuesFit := by
  cases e
  case nothing => exact h
  case completed hcur hhold hw =>
    have hl := hw.queues (by rw [hhold]; nofun)
    exact (h.lower hl).completeRequest _ _ (hl.answers.trans_lt (h.answerFree (by rw [hcur]; nofun)))
  case served f rest w hn hg hw =>
    have hs : Served (s.taken rest) w.2 := hw.served hg
    have ht : s.QueuesLower (s.taken rest) :=
      ⟨by rw [hn.oldest]; exact Nat.le_succ _, le_rfl, id, le_rfl, id, .inl rfl⟩
    have hl := ht.trans hs.queues
    have hplace : s.link.answers.length < Config.answerPlaces := by
      have := hn.may
      simp only [State.mayTake, State.answerPlace, Bool.and_eq_true, decide_eq_true_eq] at this
      exact this.1.2
    have hidle : w.2.engine.current = none := by rw [hs.engine]; exact hn.idle
    have k := h.lower hl
    refine State.QueuesFit.arbitrate ⟨k.intake, ?_, fun hc => absurd hidle hc, k.payout, k.recordFree, k.position⟩
    simpa [State.answer] using hl.answers.trans_lt hplace
  case put bytes =>
    unfold State.put State.enqueue
    split
    · exact h
    split
    · exact h.lower (.same rfl rfl rfl rfl rfl)
    split
    · next hroom =>
      exact State.QueuesFit.arbitrate ⟨by simpa using hroom, h.answers, h.answerFree, h.payout, h.recordFree, h.position⟩
    · exact h.lower (.same rfl rfl rfl rfl rfl)
  case take n =>
    unfold State.take
    dsimp only
    split
    · exact h.lower (.same rfl rfl rfl rfl rfl)
    split
    · exact h.lower (.same rfl rfl rfl rfl rfl)
    · refine State.QueuesFit.arbitrate (h.lower ⟨le_rfl, ?_, id, le_rfl, id, .inl rfl⟩)
      simp
  case linkReset => exact h.lower ⟨Nat.zero_le _, Nat.zero_le _, id, le_rfl, id, .inl rfl⟩
  case cutEdge => exact (h.lower (.requestCut s)).arbitrate
  case edge => exact h.edge
  case divider => exact h.dividerTick
  case fallBack => exact h.fallBack
  case tick => exact h.takeTick
  case roll => exact h.takeRoll
  case lapseWork n _ _ _ =>
    have hd : (s.lapseHold n).QueuesLower (s.lapseHold n).dropLapse := .same rfl rfl rfl rfl rfl
    exact (h.lower ((State.QueuesLower.lapseHold s n).trans hd)).completeUnit false
  case emptyBasket n _ _ _ =>
    have hd : s.QueuesLower (s.lapseBasket n).dropLapse := .same rfl rfl rfl rfl rfl
    exact (h.lower hd).completeUnit false
  case cut => exact (h.lower (.cutWork s)).completeUnit false
  case walk hh => exact h.walkUnit hh
  case trailer hd => exact (h.appendTrailer hd).arbitrate
  case sweep => exact (h.lower (.sweepUnit s)).completeUnit _
  case deviceReset => exact ⟨Nat.zero_le _, Nat.zero_le _, nofun, Nat.zero_le _, nofun, Nat.zero_le _⟩
  case mounted => exact (h.lower (.completeMount s)).arbitrate
  case fall =>
    unfold State.startPark
    split
    · exact h.lower (.same rfl rfl rfl rfl rfl)
    split
    · exact h.lower ⟨Nat.zero_le _, le_rfl, id, le_rfl, id, .inl rfl⟩
    · exact h.lower (.same rfl rfl rfl rfl rfl)
  case park => exact h.lower ⟨Nat.zero_le _, le_rfl, id, le_rfl, id, .inl rfl⟩
  all_goals exact h.lower (.same rfl rfl rfl rfl rfl)

theorem State.QueuesFit.step (h : s.QueuesFit) (hs : step s = .next t) : t.QueuesFit := by
  rcases step_cases hs with ⟨rest, e⟩ | ⟨-, rfl⟩ | rfl
  · have hp : (s.setPending rest).QueuesFit := h.lower (.same rfl rfl rfl rfl rfl)
    exact hp.ofEvent e
  · exact h.lower (.mountStep s)
  · exact h

end

end Sys2Proof.Machine

namespace Sys2Proof.Machine

/-! ## The Hold Table within its capacities (R48, R74) -/

/-- Holds, baskets, members and parts are within their capacities, and no two baskets carry one number. -/
structure HoldTable.Fits (t : HoldTable) : Prop where
  holds : t.holds.length ≤ Config.holdEntries
  baskets : t.baskets.length ≤ Config.basketEntries
  numbers : (t.baskets.map (·.number)).Nodup
  members : ∀ b ∈ t.baskets, b.members.length ≤ Config.basketMembers
  parts : ∀ h ∈ t.holds, h.parts.length ≤ Config.lotsPerCard

section
variable {t u : HoldTable} {s v : State}

/-- Holds and baskets alone count. -/
theorem HoldTable.Fits.congr (h : t.Fits) (hh : u.holds = t.holds) (hb : u.baskets = t.baskets) : u.Fits :=
  ⟨hh ▸ h.holds, hb ▸ h.baskets, hb ▸ h.numbers, hb ▸ h.members, hh ▸ h.parts⟩

theorem HoldTable.Fits.filterBaskets (h : t.Fits) (p : Basket → Bool) :
    HoldTable.Fits { t with baskets := t.baskets.filter p } :=
  ⟨h.holds, (List.length_filter_le _ _).trans h.baskets, h.numbers.sublist (List.filter_sublist.map _),
    fun b hb => h.members b (List.mem_filter.mp hb).1, h.parts⟩

/-- The numbers of baskets mapped by a function that keeps numbers. -/
theorem baskets_numbers {f : Basket → Basket} (hf : ∀ b, (f b).number = b.number) (bs : List Basket) :
    (bs.map f).map (·.number) = bs.map (·.number) := by
  rw [List.map_map]
  exact List.map_congr_left fun b _ => hf b

theorem HoldTable.freeHold_numbers (t : HoldTable) (h : Hold) :
    ((t.freeHold h).baskets.map (·.number)).Sublist (t.baskets.map (·.number)) := by
  unfold HoldTable.freeHold
  split
  · exact .refl _
  · next n _ =>
    refine (List.filter_sublist.map _).trans ?_
    rw [baskets_numbers (f := fun k => if k.number = n then k.without h.number else k)]
    intro b
    split <;> rfl

theorem HoldTable.Fits.freeHold (h : t.Fits) (e : Hold) : (t.freeHold e).Fits := by
  refine ⟨(List.length_filter_le _ _).trans h.holds, ?_, h.numbers.sublist (t.freeHold_numbers e), fun b hb => ?_,
    fun x hx => h.parts x (mem_freeHold_holds hx)⟩
  · simpa using (t.freeHold_numbers e).length_le.trans (by simpa using h.baskets)
  · rcases mem_freeHold_baskets hb with hb | ⟨k, hk, rfl⟩
    · exact h.members b hb
    · exact (List.length_filter_le _ _).trans (h.members k hk)

theorem HoldTable.Fits.tick (h : t.Fits) : t.tick.Fits := by
  refine ⟨(List.length_map _).trans_le h.holds, (List.length_map _).trans_le h.baskets, ?_, fun b hb => ?_, fun x hx => ?_⟩
  · exact (baskets_numbers Basket.tick_number t.baskets).symm ▸ h.numbers
  · obtain ⟨k, hk, rfl⟩ := List.mem_map.mp hb
    simpa using h.members k hk
  · obtain ⟨e, he, rfl⟩ := List.mem_map.mp hx
    simpa using h.parts e he

theorem openBasket_unique (h : t.Fits) {n : Nat} {b k : Basket} (hb : t.openBasket n = some b) (hk : k ∈ t.baskets)
    (hn : k.number = n) : k = b := by
  obtain ⟨hm, hbn, -⟩ := openBasket_spec hb
  exact List.inj_on_of_nodup_map h.numbers hk hm (hn.trans hbn.symm)

theorem HoldTable.Fits.addHold (h : t.Fits) {e : Hold} (hl : t.holds.length < Config.holdEntries)
    (hp : e.parts.length ≤ Config.lotsPerCard)
    (hj : ∀ k, e.basket = some k → ∃ b, t.openBasket k = some b ∧ b.members.length < Config.basketMembers) :
    (t.addHold e).Fits := by
  refine ⟨by simpa [HoldTable.addHold] using hl, (List.length_map _).trans_le h.baskets, ?_, fun b hb => ?_, fun x hx => ?_⟩
  · refine (baskets_numbers (f := fun b => if e.basket = some b.number then { b with members := b.members ++ [e.number] } else b)
      (fun b => ?_) t.baskets).symm ▸ h.numbers
    split <;> rfl
  · obtain ⟨k, hk, rfl⟩ := List.mem_map.mp hb
    split
    · next hjoin =>
      obtain ⟨b, hopen, hroom⟩ := hj k.number hjoin
      obtain rfl := openBasket_unique h hopen hk rfl
      simpa using hroom
    · exact h.members k hk
  · rcases List.mem_append.mp hx with hx | hx
    · exact h.parts x hx
    · exact List.mem_singleton.mp hx ▸ hp

/-- The next basket's number is carried by no basket (R74). -/
theorem HoldTable.nextBasket_fresh (h : t.baskets.length < Config.basketEntries) : t.nextBasket ∉ t.baskets.map (·.number) := by
  have := freeSerial_fresh (t.baskets.map (·.number)) t.basketSerial
    (by rw [List.length_map]; exact h.trans (by decide))
  rwa [List.length_map] at this

theorem HoldTable.Fits.addBasket (h : t.Fits) {b : Basket} (serial : Nat) (hn : b.number = t.nextBasket)
    (hl : t.baskets.length < Config.basketEntries) (hm : b.members = []) :
    HoldTable.Fits { t with baskets := t.baskets ++ [b], basketSerial := serial } := by
  have fresh := HoldTable.nextBasket_fresh hl
  refine ⟨h.holds, by simpa using hl, ?_, fun k hk => ?_, h.parts⟩
  · simp only [List.map_append, List.map_cons, List.map_nil]
    refine List.nodup_append.mpr ⟨h.numbers, List.nodup_singleton _, fun x hx y hy => ?_⟩
    obtain rfl := List.mem_singleton.mp hy
    exact fun e => fresh (hn ▸ e ▸ hx)
  · rcases List.mem_append.mp hk with hk | hk
    · exact h.members k hk
    · obtain rfl := List.mem_singleton.mp hk
      simp [hm]

theorem HoldTable.Fits.endHolds (h : s.hold.Fits) (ends : List (Hold × Nat)) : (s.endHolds ends).hold.Fits := by
  induction ends generalizing s with
  | nil => exact h
  | cons e rest ih =>
    have he : (s.endHold e.1 e.2).hold.Fits := by rw [State.endHold_hold]; exact h.freeHold e.1
    exact ih he

theorem HoldTable.Fits.clearBaskets (h : s.hold.Fits) (m n : Nat) : (s.clearBaskets m n).hold.Fits := by
  unfold State.clearBaskets
  generalize s.hold.terminalBaskets m n = bs
  induction bs generalizing s with
  | nil => exact h
  | cons b rest ih =>
    have hb : ((s.endHolds (s.releaseEnds b)).freeBasket b.number).hold.Fits :=
      (HoldTable.Fits.endHolds h _).filterBaskets _
    exact ih hb

theorem HoldTable.Fits.takeTicks (h : s.hold.Fits) : s.takeTicks.hold.Fits :=
  (HoldTable.ticks_keep (P := HoldTable.Fits) (fun _ ht => ht.tick) _ h).congr rfl rfl

theorem HoldTable.Fits.completeUnit (h : s.hold.Fits) (keeps : Bool) : (s.completeUnit keeps).hold.Fits := by
  unfold State.completeUnit
  rw [State.arbitrate_hold]
  refine HoldTable.Fits.takeTicks ?_
  split <;> exact h

theorem HoldTable.Fits.takeTick (h : s.hold.Fits) : s.takeTick.hold.Fits := by
  unfold State.takeTick
  split
  · rw [State.arbitrate_hold]
    exact h.tick.congr rfl rfl
  · exact h.congr rfl rfl

/-! ### What leaves the Hold Table -/

theorem State.requestCut_hold (s : State) : s.requestCut.hold = s.hold := by
  unfold State.requestCut
  split <;> rfl

theorem State.countDay_hold (s : State) : s.countDay.hold = s.hold := by
  unfold State.countDay
  split
  · split
    · rw [State.requestCut_hold]
    · rfl
  · rfl

theorem State.takeRoll_hold (s : State) : s.takeRoll.hold = s.hold := by
  unfold State.takeRoll
  split
  · rw [State.arbitrate_hold, State.deliver_hold, State.countDay_hold]
  · rfl

theorem State.readQueue_hold (s : State) : s.readQueue.hold = s.hold := by
  unfold State.readQueue State.completeRun
  dsimp only
  split
  · rw [State.deliver_hold]
  · rfl

theorem State.startPass_hold (s : State) : s.startPass.hold = s.hold := by
  unfold State.startPass
  split <;> rfl

theorem State.cutWork_hold (s : State) : s.cutWork.hold = s.hold := by
  unfold State.cutWork State.takeCut State.deferCut
  split
  · rw [State.deliver_hold, State.raiseIf_hold]
  · rw [State.deliver_hold]

theorem State.walkUnit_hold (s : State) : s.walkUnit.hold = s.hold := by
  unfold State.walkUnit
  split <;> rfl

theorem State.visit_hold (s : State) (slot : Nat) : (s.visit slot).hold = s.hold := by
  unfold State.visit
  split
  · rfl
  · dsimp only
    split <;> exact s.postAll_hold _

theorem State.visits_hold (slots : List Nat) (s : State) : (slots.foldl State.visit s).hold = s.hold := by
  induction slots generalizing s with
  | nil => rfl
  | cons j rest ih => rw [List.foldl_cons, ih, State.visit_hold]

theorem State.sweepUnit_hold (s : State) : s.sweepUnit.hold = s.hold := by
  unfold State.sweepUnit State.endPass
  dsimp only
  split
  · rw [State.deliver_hold]
    split <;> exact State.visits_hold _ s
  · exact State.visits_hold _ s

theorem State.mountCard_hold (s : State) (slot : Nat) : (s.mountCard slot).hold = s.hold := by
  unfold State.mountCard
  split
  · rfl
  · exact State.closingCheck_hold _ _ _

theorem State.mountCards_hold (slots : List Nat) (s : State) : (slots.foldl State.mountCard s).hold = s.hold := by
  induction slots generalizing s with
  | nil => rfl
  | cons j rest ih => rw [List.foldl_cons, ih, State.mountCard_hold]

theorem State.mountTotals_hold (s : State) : s.mountTotals.hold = s.hold := by
  have sponsors : ∀ (lots : List Lot) (is : List Nat) (u : State), (is.foldl (State.mountSponsor lots) u).hold = u.hold :=
    fun lots is => by
      induction is with
      | nil => exact fun _ => rfl
      | cons i rest ih => exact fun u => ih _
  unfold State.mountTotals
  rw [sponsors]

theorem State.mountSnapshot_hold (s : State) : s.mountSnapshot.hold = s.hold := by
  unfold State.mountSnapshot
  split <;> rfl

theorem State.mountStep_hold (s : State) : s.mountStep.hold = s.hold := by
  unfold State.mountStep
  split
  · rfl
  · split
    · exact s.mountCard_hold _
    · rfl
  · exact s.mountTotals_hold
  · rfl
  · exact s.mountSnapshot_hold
  · rfl

theorem State.mountAll_hold (s : State) : s.mountAll.hold = s.hold := by
  unfold State.mountAll State.setMount
  dsimp only
  rw [State.mountSnapshot_hold]
  exact (State.mountTotals_hold _).trans (State.mountCards_hold _ _)

theorem State.requestExpiredCut_hold (s : State) : s.requestExpiredCut.hold = s.hold := by
  unfold State.requestExpiredCut
  split <;> rfl

theorem State.completeMount_hold (s : State) : s.completeMount.hold = s.hold := by
  unfold State.completeMount
  dsimp only
  rw [State.raiseIf_hold, State.requestExpiredCut_hold]
  exact s.mountAll_hold

theorem HoldTable.Fits.advance (h : s.hold.Fits) : s.advance.hold.Fits := by
  have k : s.takeTick.takeRoll.hold.Fits := by rw [State.takeRoll_hold]; exact HoldTable.Fits.takeTick h
  exact k.congr rfl rfl

theorem HoldTable.Fits.fallBack (h : s.hold.Fits) : s.fallBack.hold.Fits := HoldTable.Fits.advance h

theorem HoldTable.Fits.edge (h : s.hold.Fits) : s.edge.hold.Fits := by
  have hd : (s.setDivider 0).hold.Fits := h
  unfold State.edge
  split
  · exact hd.advance
  · exact h
  · exact h

theorem HoldTable.Fits.dividerTick (h : s.hold.Fits) : s.dividerTick.hold.Fits := by
  have hd : ∀ n, (s.setDivider n).hold.Fits := fun _ => h
  unfold State.dividerTick
  split
  · split
    · exact h.fallBack
    · exact h
  · exact (hd _).advance
  · exact (hd _).advance

/-! ### Every step -/

theorem HoldTable.Fits.effect (h : s.hold.Fits) (hc : ∀ e ∈ s.cards.slots, e.2.lots.length ≤ Config.lotsPerCard)
    (e : Effect s v) : v.hold.Fits := by
  cases e
  case issued => rw [State.postAll_hold]; exact h
  case loaded | refunded | sold => rw [State.postAll_hold]; exact (State.postAll_hold s _) ▸ h
  case restated | retired | replaced => exact (State.postAll_hold s _) ▸ h
  case authorized n m t a slot c minutes basket _ _ _ hf hplaces _ hjoin _ _ =>
    have hlots := hc _ (mem_of_tableFind (State.cardAt_of_lookup hf))
    refine HoldTable.Fits.addHold h hplaces ?_ fun k hk => ?_
    · exact (partsOf_length a _).trans ((length_le_of_keys (expireLots_keys s.today c.lots)).trans hlots)
    · obtain ⟨b, hb, -, hm⟩ := hjoin k hk
      exact ⟨b, hb, hm⟩
  case captured => rw [State.postAll_hold, State.endHold_hold]; exact h.freeHold _
  case basketOpened hplaces => exact h.addBasket _ rfl hplaces rfl
  case basketEnded n _ _ ends _ _ _ _ =>
    rw [State.postAll_hold]
    exact (HoldTable.Fits.endHolds h ends).filterBaskets _
  case terminalCleared => exact (HoldTable.Fits.clearBaskets h _ _).endHolds _
  case cutRequested => rw [State.requestCut_hold]; exact h
  case queueRead => rw [State.readQueue_hold]; exact h
  case clockSet => exact (State.takeRoll_hold s).symm ▸ h
  case passStarted => rw [State.startPass_hold]; exact h
  all_goals exact h

theorem HoldTable.Fits.ofEvent (h : s.hold.Fits) (hc : ∀ e ∈ s.cards.slots, e.2.lots.length ≤ Config.lotsPerCard)
    (e : Event s v) : v.hold.Fits := by
  have work : ∀ {f : Frame} {u : State} {w : Reply × State}, u.hold = s.hold → u.cards = s.cards → WorkOf f u w →
      w.2.hold.Fits := fun {f u w} hu huc hw => by
    rcases hw with e | ⟨q, -, rfl⟩
    · rw [e, hu]; exact h
    · obtain ⟨x, hx, he⟩ := q.work_effect u
      have hxh : x.hold = s.hold := by rw [hx.eq]; exact hu
      have hxc : x.cards = s.cards := by rw [hx.eq]; exact huc
      exact HoldTable.Fits.effect (hxh ▸ h) (hxc ▸ hc) he
  cases e
  case completed hw =>
    unfold State.completeRequest
    refine HoldTable.Fits.completeUnit ?_ false
    split <;> exact work rfl rfl hw
  case served rest w _ _ hw =>
    unfold State.completeTaken
    rw [State.arbitrate_hold]
    exact work (u := s.taken rest) rfl rfl hw
  case put bytes =>
    unfold State.put State.enqueue
    split
    · exact h
    split
    · exact h
    split
    · rw [State.arbitrate_hold]; exact h
    · exact h
  case take n =>
    unfold State.take
    dsimp only
    split
    · exact h
    split
    · exact h
    · rw [State.arbitrate_hold]; exact h
  case cutEdge => rw [State.arbitrate_hold, State.requestCut_hold]; exact h
  case edge => exact h.edge
  case divider => exact h.dividerTick
  case fallBack => exact h.fallBack
  case tick => exact h.takeTick
  case roll => rw [State.takeRoll_hold]; exact h
  case lapseWork n _ _ _ =>
    refine HoldTable.Fits.completeUnit ?_ false
    have hl : (s.lapseHold n).hold.Fits := by
      unfold State.lapseHold
      split
      · exact h
      · rw [State.endHold_hold]; exact h.freeHold _
    exact hl.congr rfl rfl
  case emptyBasket n _ _ _ =>
    refine HoldTable.Fits.completeUnit ?_ false
    exact (h.filterBaskets fun b => b.number ≠ n).congr rfl rfl
  case cut =>
    refine HoldTable.Fits.completeUnit ?_ false
    rw [State.cutWork_hold]; exact h
  case walk =>
    refine HoldTable.Fits.completeUnit ?_ _
    rw [State.walkUnit_hold]; exact h
  case trailer => rw [State.arbitrate_hold]; exact h
  case sweep =>
    refine HoldTable.Fits.completeUnit ?_ _
    rw [State.sweepUnit_hold]; exact h
  case deviceReset => exact ⟨Nat.zero_le _, Nat.zero_le _, List.nodup_nil, nofun, nofun⟩
  case mounted => rw [State.arbitrate_hold, State.completeMount_hold]; exact h
  case fall =>
    unfold State.startPark
    split
    · exact h
    · split <;> exact h
  all_goals exact h

theorem HoldTable.Fits.step (h : s.hold.Fits) (hc : ∀ e ∈ s.cards.slots, e.2.lots.length ≤ Config.lotsPerCard)
    (hs : step s = .next v) : v.hold.Fits := by
  rcases step_cases hs with ⟨rest, e⟩ | ⟨-, rfl⟩ | rfl
  · exact HoldTable.Fits.ofEvent (s := s.setPending rest) h hc e
  · rw [State.mountStep_hold]; exact h
  · exact h

end

/-- Settles O3: the queues, the Hold Table and the cards, each kept within their capacities by every step. -/
theorem stepKeepsCapacity : Obligations.StepKeepsCapacity := fun s t h hs => by
  have hq : t.QueuesFit := State.QueuesFit.step
    ⟨h.intake, h.answers, h.answerFree, h.payout, h.recordFree, h.position⟩ hs
  have hh : t.hold.Fits := HoldTable.Fits.step ⟨h.holds, h.baskets, h.basketNumbers, h.members, h.parts⟩ h.lots hs
  have hc := State.CardsHave.step cardRule_capacity (fun e he => ⟨h.lots e he, h.holdsOfCard e he⟩) hs
  exact ⟨hq.intake, hq.answers, hq.answerFree, hq.payout, hq.recordFree, hq.position, hh.holds, hh.baskets, hh.numbers,
    hh.members, hh.parts, fun e he => (hc e he).1, fun e he => (hc e he).2⟩

end Sys2Proof.Machine

namespace Sys2Proof.Machine

/-! ## Conditions that stand (R191) -/

/-- A condition raised adds what it sets to what stands. -/
theorem State.raise_stands (s : State) {c d : Condition} {b : Bool} (h : (c.set &&& 0x1FFC#16).getLsbD d.bit = b) :
    (s.raise c).stands d = (s.stands d || b) := by
  subst h
  have level : (s.raise c).levelConditions = s.levelConditions := rfl
  have latched : (s.raise c).link.latched = s.link.latched ||| c.set := rfl
  simp only [State.stands, State.conditions, level, latched, BitVec.getLsbD_or, BitVec.getLsbD_and, Bool.and_or_distrib_right]
  cases s.levelConditions.getLsbD d.bit <;> simp

theorem State.raiseIf_stands (s : State) {c d : Condition} {b : Bool} (a : Bool)
    (h : (c.set &&& 0x1FFC#16).getLsbD d.bit = b) : (s.raiseIf a c).stands d = (s.stands d || a && b) := by
  cases a
  · simp
  · exact s.raise_stands h

/-- What stands is read off the link and the payout queue. -/
theorem State.stands_congr {s t : State} (hl : t.link.latched = s.link.latched) (ha : t.link.answers = s.link.answers)
    (hq : t.payout.queue = s.payout.queue) (c : Condition) : t.stands c = s.stands c := by
  simp [State.stands, State.conditions, State.levelConditions, hl, ha, hq]

/-! ## The mount (R180)

One lemma for what each part of the mount leaves alone, and one for what it writes. -/

theorem State.mountCard_frame (s : State) (slot : Nat) :
    s.mountCard slot = { s with cards := (s.mountCard slot).cards } := by
  unfold State.mountCard
  split
  · rfl
  · dsimp only
    rw [State.closingCheck_cards]
    rfl

theorem State.mountCards_frame (slots : List Nat) (s : State) :
    slots.foldl State.mountCard s = { s with cards := (slots.foldl State.mountCard s).cards } := by
  induction slots generalizing s with
  | nil => rfl
  | cons j rest ih =>
    rw [List.foldl_cons, ih, s.mountCard_frame]

theorem State.mountSponsors_frame (lots : List Lot) (is : List Nat) (s : State) :
    is.foldl (State.mountSponsor lots) s = { s with merchants := (is.foldl (State.mountSponsor lots) s).merchants } := by
  induction is generalizing s with
  | nil => rfl
  | cons i rest ih => exact ih _

theorem State.mountTotals_frame (s : State) : s.mountTotals = { s with
    cards := { s.cards with
      paidOutstanding := min (kindValue .paid s.allLots) Config.sum48Max
      promoOutstanding := min (kindValue .promo s.allLots) Config.sum48Max }
    merchants := s.mountTotals.merchants } := State.mountSponsors_frame _ _ _

/-- What the mount leaves, but for the cards and merchants. -/
theorem State.mountAll_frame (s : State) : s.mountAll = { s with
    store := { s.store with settingsRead := true, mount := .finished }
    routes := s.storedRoutes
    clock := { s.clock with source := sourceOf s.settings.clockInternal }
    cards := s.mountAll.cards
    merchants := s.mountAll.merchants
    period := s.mountSnapshot.period } := by
  have snapshot : ∀ u : State, u.period = s.period →
      u.mountSnapshot = { u with period := s.mountSnapshot.period } := fun u hu => by
    unfold State.mountSnapshot
    rw [hu]
    split
    · rfl
    · rw [← hu]
  have hp : ((((s.mountSettings.cards.slots.map (·.1)).foldl State.mountCard s.mountSettings).mountTotals).mountMerchants).period =
      s.period := by
    unfold State.mountMerchants
    rw [State.mountTotals_frame, State.mountCards_frame]
    rfl
  unfold State.mountAll State.setMount
  dsimp only
  rw [snapshot _ hp]
  unfold State.mountMerchants
  rw [State.mountTotals_frame, State.mountCards_frame]
  rfl

/-- The cards as step 2 leaves them. -/
abbrev State.cardsMounted (s : State) : State := (s.cards.slots.map (·.1)).foldl State.mountCard s.mountSettings

theorem State.mountAll_cards (s : State) : s.mountAll.cards = s.cardsMounted.mountTotals.cards := by
  unfold State.mountAll State.setMount
  dsimp only
  rw [State.mountSnapshot_cards]
  rfl

theorem State.mountSnapshot_merchants (s : State) : s.mountSnapshot.merchants = s.merchants := by
  unfold State.mountSnapshot
  split <;> rfl

theorem State.mountAll_merchants (s : State) : s.mountAll.merchants = s.cardsMounted.mountTotals.mountMerchants.merchants := by
  unfold State.mountAll State.setMount
  dsimp only
  rw [State.mountSnapshot_merchants]
  rfl

/-! ### Cards -/

/-- What the mount leaves of a card: its held value returned, no open hold, and the closing check made (R17, R180). -/
def mountedCard (c : Card) : Option Card := closedCard { c with lots := c.lots.map Lot.restored, openHolds := 0 }

/-- Returning held value changes no value. -/
theorem valueWhere_restored (p : LotKey → Bool) (lots : List Lot) :
    valueWhere p (lots.map Lot.restored) = valueWhere p lots := by
  induction lots with
  | nil => rfl
  | cons l rest ih => rw [List.map_cons, valueWhere_cons, valueWhere_cons, ih]; rfl

theorem lotsValue_eq (lots : List Lot) : lotsValue lots = valueWhere (fun _ => true) lots := by
  simp [valueWhere]

theorem lotsValue_restored (lots : List Lot) : lotsValue (lots.map Lot.restored) = lotsValue lots := by
  rw [lotsValue_eq, lotsValue_eq, valueWhere_restored]

theorem mountedCard_eq (c : Card) : mountedCard c =
    if c.state = .closing ∧ lotsValue c.lots = 0 then none
    else some { c with
      state := if c.state = .closing then .active else c.state
      openHolds := 0
      lots := c.lots.map Lot.restored } := by
  unfold mountedCard closedCard
  rw [lotsValue_restored]
  by_cases h : c.state = .closing <;> by_cases h0 : lotsValue c.lots = 0 <;> simp [h, h0]

/-- A card that stands after the mount keeps its number, with its held value returned. -/
theorem mountedCard_some {c d : Card} (h : mountedCard c = some d) :
    d.number = c.number ∧ d.lots = c.lots.map Lot.restored ∧ d.openHolds = 0 := by
  rw [mountedCard_eq] at h
  split at h
  · cases h
  · obtain rfl := Option.some.inj h
    exact ⟨rfl, rfl, rfl⟩

section
variable {s : State}

theorem State.mountCard_cardAt (h : tableWf s.cards.slots) (slot j : Nat) :
    (s.mountCard slot).cardAt j = if j = slot then (s.cardAt slot).bind mountedCard else s.cardAt j := by
  unfold State.mountCard
  split
  · next hc =>
    split
    · next e => rw [e, hc]; rfl
    · rfl
  · next c hc =>
    have hw : tableWf (s.insertCard slot { c with lots := c.lots.map Lot.restored, openHolds := 0 }).cards.slots :=
      tableWf_insert _ _ _ h
    rw [State.closingCheck_cardAt hw]
    split
    · rw [hc]; rfl
    · next e => exact tableFind_insert_ne _ _ e

theorem State.mountCard_slots_wf (h : tableWf s.cards.slots) (slot : Nat) : tableWf (s.mountCard slot).cards.slots := by
  unfold State.mountCard State.closingCheck
  split
  · exact h
  · dsimp only
    split
    · split
      · exact tableWf_erase _ _ (tableWf_insert _ _ _ h)
      · exact tableWf_insert _ _ _ (tableWf_insert _ _ _ h)
    · exact tableWf_insert _ _ _ (tableWf_insert _ _ _ h)

/-- The directory after one card: its number entered, and taken out again when the card is retired. -/
theorem State.mountCard_directory {slot : Nat} {c : Card} (hc : s.cardAt slot = some c) :
    (s.mountCard slot).cards.directory = if mountedCard c = none
      then tableErase (tableInsert s.cards.directory c.number slot) c.number
      else tableInsert s.cards.directory c.number slot := by
  simp only [State.mountCard, hc]
  unfold State.closingCheck mountedCard closedCard
  split
  · split <;> rfl
  · rfl

/-- Each slot of the list has been mounted, and no other. -/
theorem State.mountCards_cardAt (h : tableWf s.cards.slots) {slots : List Nat} (hn : slots.Nodup) (j : Nat) :
    (slots.foldl State.mountCard s).cardAt j = if j ∈ slots then (s.cardAt j).bind mountedCard else s.cardAt j := by
  induction slots generalizing s with
  | nil => rfl
  | cons i rest ih =>
    obtain ⟨hi, hr⟩ := List.nodup_cons.mp hn
    rw [List.foldl_cons, ih (State.mountCard_slots_wf h i) hr, State.mountCard_cardAt h]
    by_cases e : j = i
    · subst e; simp [hi]
    · simp [e]

theorem slots_nodup {α : Type} {t : Table α} (h : tableWf t) : (t.map (·.1)).Nodup :=
  (List.pairwise_map.mpr h : (t.map (·.1)).Pairwise (· < ·)).imp Nat.ne_of_lt

theorem tableFind_none_of_not_mem {α : Type} {t : Table α} {i : Nat} (h : i ∉ t.map (·.1)) : tableFind t i = none := by
  cases hf : tableFind t i with
  | none => rfl
  | some v => exact absurd (List.mem_map_of_mem (f := (·.1)) (mem_of_tableFind hf)) h

theorem State.cardsMounted_cardAt (h : tableWf s.cards.slots) (j : Nat) :
    s.cardsMounted.cardAt j = (s.cardAt j).bind mountedCard := by
  have hm : tableWf s.mountSettings.cards.slots := h
  have := State.mountCards_cardAt hm (slots_nodup h) j
  rw [State.cardsMounted, this]
  split
  · rfl
  · next hj =>
    have : s.cardAt j = none := tableFind_none_of_not_mem hj
    rw [this]
    exact this

/-! ### The directory -/

/-- No two cards carry one number. -/
def State.NumbersOnce (s : State) : Prop :=
  ∀ i j c d, s.cardAt i = some c → s.cardAt j = some d → c.number = d.number → i = j

/-- The directory names the cards in the slots of a list, and those alone. -/
def State.Names (s : State) (slots : List Nat) : Prop :=
  ∀ n j, tableFind s.cards.directory n = some j ↔ j ∈ slots ∧ ∃ c, s.cardAt j = some c ∧ c.number = n

theorem State.NumbersOnce.mountCard (h : s.NumbersOnce) (hw : tableWf s.cards.slots) (slot : Nat) :
    (s.mountCard slot).NumbersOnce := by
  have number : ∀ {i c}, (s.mountCard slot).cardAt i = some c → ∃ c', s.cardAt i = some c' ∧ c'.number = c.number :=
    fun {i c} hi => by
      rw [State.mountCard_cardAt hw] at hi
      split at hi
      · next e =>
        obtain ⟨c', hc', hm⟩ := Option.bind_eq_some_iff.mp hi
        exact ⟨c', e ▸ hc', (mountedCard_some hm).1.symm⟩
      · exact ⟨c, hi, rfl⟩
  intro i j c d hi hj e
  obtain ⟨c', hc', hcn⟩ := number hi
  obtain ⟨d', hd', hdn⟩ := number hj
  exact h i j c' d' hc' hd' (hcn.trans (e.trans hdn.symm))

/-- Mounting a slot brings it under the directory. -/
theorem State.Names.mountCard (hw : tableWf s.cards.slots) (hd : tableWf s.cards.directory) (hn : s.NumbersOnce)
    {slots : List Nat} {slot : Nat} (hs : slot ∉ slots) (h : s.Names slots) : (s.mountCard slot).Names (slot :: slots) := by
  intro n j
  have others : j ≠ slot → ((j ∈ slot :: slots ∧ ∃ c, (s.mountCard slot).cardAt j = some c ∧ c.number = n) ↔
      tableFind s.cards.directory n = some j) := fun e => by
    rw [h, State.mountCard_cardAt hw, if_neg e, List.mem_cons, or_iff_right e]
  cases hc : s.cardAt slot with
  | none =>
    have hd' : (s.mountCard slot).cards.directory = s.cards.directory := by simp [State.mountCard, hc]
    rw [hd']
    by_cases e : j = slot
    · subst e
      rw [State.mountCard_cardAt hw, hc]
      refine iff_of_false (fun hf => ?_) (by simp)
      exact hs ((h n j).mp hf).1
    · exact (others e).symm
  | some c =>
    have absent : ∀ j, tableFind s.cards.directory c.number ≠ some j := fun j hf => by
      obtain ⟨hj, d, hdj, hdn⟩ := (h c.number j).mp hf
      exact hs (hn slot j c d hc hdj hdn.symm ▸ hj)
    rw [State.mountCard_directory hc]
    by_cases e : j = slot
    · subst e
      have away : n ≠ c.number → tableFind s.cards.directory n ≠ some j := fun _ hf => hs ((h n j).mp hf).1
      rw [State.mountCard_cardAt hw, if_pos rfl, hc]
      cases hm : mountedCard c with
      | none =>
        refine iff_of_false ?_ (by simp [hm])
        by_cases en : n = c.number
        · subst en
          rw [if_pos rfl, tableFind_erase_self _ _ (tableWf_insert _ _ _ hd)]
          nofun
        · rw [if_pos rfl, tableFind_erase_ne _ en, tableFind_insert_ne _ _ en]
          exact away en
      | some d =>
        have hnum := (mountedCard_some hm).1
        rw [if_neg (by simp)]
        by_cases en : n = c.number
        · subst en
          rw [tableFind_insert_self]
          simp [hm, hnum]
        · rw [tableFind_insert_ne _ _ en]
          refine iff_of_false (away en) ?_
          rintro ⟨-, x, hx, hxn⟩
          obtain rfl : d = x := Option.some.inj (hm.symm.trans hx)
          exact en (hxn.symm.trans hnum)
    · rw [others e]
      by_cases en : n = c.number
      · subst en
        refine iff_of_false ?_ (absent j)
        split
        · rw [tableFind_erase_self _ _ (tableWf_insert _ _ _ hd)]
          nofun
        · rw [tableFind_insert_self]
          exact fun hf => e (Option.some.inj hf).symm
      · split
        · rw [tableFind_erase_ne _ en, tableFind_insert_ne _ _ en]
        · rw [tableFind_insert_ne _ _ en]

theorem State.mountCard_directory_wf (h : tableWf s.cards.directory) (slot : Nat) :
    tableWf (s.mountCard slot).cards.directory := by
  cases hc : s.cardAt slot with
  | none => simpa [State.mountCard, hc] using h
  | some c =>
    rw [State.mountCard_directory hc]
    split
    · exact tableWf_erase _ _ (tableWf_insert _ _ _ h)
    · exact tableWf_insert _ _ _ h

theorem State.Names.mountCards {slots done : List Nat} (hnd : (done.reverse ++ slots).Nodup) (hw : tableWf s.cards.slots)
    (hd : tableWf s.cards.directory) (hn : s.NumbersOnce) (h : s.Names done) :
    (slots.foldl State.mountCard s).Names (slots.reverse ++ done) := by
  induction slots generalizing s done with
  | nil => exact h
  | cons j rest ih =>
    have hj : j ∉ done := fun hm =>
      List.disjoint_of_nodup_append hnd (List.mem_reverse.mpr hm) List.mem_cons_self
    have := ih (done := j :: done) (by simpa using hnd) (State.mountCard_slots_wf hw j) (State.mountCard_directory_wf hd j)
      (hn.mountCard hw j) (State.Names.mountCard hw hd hn hj h)
    simpa using this

/-- After the mount the directory names every card (R3, R180). -/
theorem State.cardsMounted_directory (hw : tableWf s.cards.slots) (hn : s.NumbersOnce) (n j : Nat) :
    tableFind s.cardsMounted.cards.directory n = some j ↔ ∃ c, s.cardsMounted.cardAt j = some c ∧ c.number = n := by
  have start : s.mountSettings.Names [] := fun n j => by simp [State.mountSettings, tableFind]
  have hnd : (([] : List Nat).reverse ++ s.cards.slots.map (·.1)).Nodup := slots_nodup hw
  rw [State.Names.mountCards (s := s.mountSettings) hnd hw List.Pairwise.nil hn start n j]
  refine ⟨fun h => h.2, fun h => ⟨?_, h⟩⟩
  obtain ⟨c, hc, -⟩ := h
  rw [State.cardsMounted_cardAt hw] at hc
  obtain ⟨d, hd, -⟩ := Option.bind_eq_some_iff.mp hc
  simpa using ⟨d, mem_of_tableFind hd⟩

/-! ### The value of the lots -/

/-- A card written in place of another changes the value by what the two hold. -/
theorem State.putCard_value (h : tableWf s.cards.slots) (p : LotKey → Bool) {slot : Nat} {c : Card}
    (hc : s.cardAt slot = some c) (d : Card) :
    valueWhere p (s.putCard slot d).allLots + valueWhere p c.lots = valueWhere p s.allLots + valueWhere p d.lots := by
  rw [State.allLots_value, State.allLots_value]
  exact tableSum_insert_old (fun c : Card => valueWhere p c.lots) h d hc

/-- A card retired takes its value away. -/
theorem State.retireCard_value (p : LotKey → Bool) {slot : Nat} {c : Card} (hc : s.cardAt slot = some c) (n : Nat) :
    valueWhere p (s.retireCard slot n).allLots + valueWhere p c.lots = valueWhere p s.allLots := by
  rw [State.allLots_value, State.allLots_value]
  exact tableSum_erase (fun c : Card => valueWhere p c.lots) hc

/-- The closing check retires only a card without value. -/
theorem State.closingCheck_value (h : tableWf s.cards.slots) (p : LotKey → Bool) {slot : Nat} {c : Card}
    (hc : s.cardAt slot = some c) (d : Card) :
    valueWhere p (s.closingCheck slot d).allLots + valueWhere p c.lots = valueWhere p s.allLots + valueWhere p d.lots := by
  unfold State.closingCheck
  split
  · split
    · next h0 =>
      have hp : valueWhere p d.lots = 0 := Nat.le_zero.mp (h0 ▸ valueWhere_le p d.lots)
      rw [State.retireCard_value p hc, hp, Nat.add_zero]
    · exact State.putCard_value h p hc _
  · exact State.putCard_value h p hc d

theorem State.mountCard_value (h : tableWf s.cards.slots) (p : LotKey → Bool) (slot : Nat) :
    valueWhere p (s.mountCard slot).allLots = valueWhere p s.allLots := by
  cases hc : s.cardAt slot with
  | none => simp [State.mountCard, hc]
  | some c =>
    have hr := valueWhere_restored p c.lots
    have hput := State.putCard_value h p hc { c with lots := c.lots.map Lot.restored, openHolds := 0 }
    have hself : (s.insertCard slot { c with lots := c.lots.map Lot.restored, openHolds := 0 }).cardAt slot =
        some { c with lots := c.lots.map Lot.restored, openHolds := 0 } := tableFind_insert_self _ _ _
    have hcheck := State.closingCheck_value (tableWf_insert _ _ _ h) p hself { c with lots := c.lots.map Lot.restored, openHolds := 0 }
    simp only [State.mountCard, hc]
    dsimp only at hput hcheck
    have hsame : valueWhere p (s.insertCard slot { c with lots := c.lots.map Lot.restored, openHolds := 0 }).allLots =
        valueWhere p (s.putCard slot { c with lots := c.lots.map Lot.restored, openHolds := 0 }).allLots := rfl
    omega

theorem State.cardsMounted_value (h : tableWf s.cards.slots) (p : LotKey → Bool) :
    valueWhere p s.cardsMounted.allLots = valueWhere p s.allLots := by
  have all : ∀ (slots : List Nat) (u : State), tableWf u.cards.slots →
      valueWhere p (slots.foldl State.mountCard u).allLots = valueWhere p u.allLots := fun slots => by
    induction slots with
    | nil => exact fun _ _ => rfl
    | cons j rest ih => exact fun u hu => (ih _ (State.mountCard_slots_wf hu j)).trans (State.mountCard_value hu p j)
  exact all _ s.mountSettings h

/-! ### Merchants -/

theorem State.mountSponsors_merchant (lots : List Lot) {is : List Nat} (h : tableWfD Merchant.unlisted s.merchants) (j : Nat) :
    (is.foldl (State.mountSponsor lots) s).merchant j =
      if j ∈ is then { s.merchant j with sponsored := min (sponsoredValue j lots) Config.sum48Max } else s.merchant j := by
  induction is generalizing s with
  | nil => rfl
  | cons i rest ih =>
    have hw : tableWfD Merchant.unlisted (State.mountSponsor lots s i).merchants := tableWfD_set _ _ _ _ h
    rw [List.foldl_cons, ih hw, State.mountSponsor, State.onMerchant_merchant h.1]
    by_cases e : j = i
    · subst e; by_cases hr : j ∈ rest <;> simp [hr]
    · simp [e]

/-- A sponsor that no lot names has no value on cards. -/
theorem sponsoredValue_of_not_mem {i : Nat} {lots : List Lot} (h : i ∉ lotSponsors lots) : sponsoredValue i lots = 0 := by
  have : lots.filter (fun l => l.key.kind == .promo && l.key.sponsor == some i) = [] :=
    List.filter_eq_nil_iff.mpr fun l hl hk => h (List.mem_filterMap.mpr ⟨l, hl, by
      rw [Bool.and_eq_true, beq_iff_eq, beq_iff_eq] at hk
      exact hk.2⟩)
  rw [sponsoredValue, this]
  rfl

theorem State.mountTotals_merchant (h : tableWfD Merchant.unlisted s.merchants) (i : Nat) : s.mountTotals.merchant i =
    { s.merchant i with sponsored := min (sponsoredValue i s.allLots) Config.sum48Max } := by
  have zeroed : tableGet Merchant.unlisted
      (tableMap Merchant.unlisted (fun _ m => { m with sponsored := 0 }) s.merchants) i = { s.merchant i with sponsored := 0 } :=
    tableGet_map Merchant.unlisted (fun _ m => { m with sponsored := 0 }) h.1 i rfl
  unfold State.mountTotals
  dsimp only
  rw [State.mountSponsors_merchant _ (tableWfD_map _ (fun _ m => { m with sponsored := 0 }) _ h)]
  unfold State.merchant at zeroed ⊢
  dsimp only
  rw [zeroed]
  split
  · rfl
  · next hi => rw [sponsoredValue_of_not_mem hi]; rfl

theorem State.mountTotals_merchants_wf (h : tableWfD Merchant.unlisted s.merchants) :
    tableWfD Merchant.unlisted s.mountTotals.merchants := by
  have all : ∀ (lots : List Lot) (is : List Nat) (u : State), tableWfD Merchant.unlisted u.merchants →
      tableWfD Merchant.unlisted (is.foldl (State.mountSponsor lots) u).merchants := fun lots is => by
    induction is with
    | nil => exact fun _ h => h
    | cons i rest ih => exact fun u hu => ih _ (tableWfD_set _ _ _ _ hu)
  exact all _ _ _ (tableWfD_map _ (fun _ m => { m with sponsored := 0 }) _ h)

theorem State.mountMerchants_merchant (h : tableWf s.merchants) (i : Nat) :
    s.mountMerchants.merchant i = { s.merchant i with openHolds := 0 } :=
  tableGet_map Merchant.unlisted (fun _ m => { m with openHolds := 0 }) h i rfl

theorem State.mountCards_merchants (slots : List Nat) (s : State) : (slots.foldl State.mountCard s).merchants = s.merchants := by
  rw [State.mountCards_frame]

theorem State.mountAll_merchant (h : s.TablesFormed) (i : Nat) : s.mountAll.merchant i = { s.merchant i with
    sponsored := min (sponsoredValue i s.allLots) Config.sum48Max, openHolds := 0 } := by
  have hm : s.cardsMounted.merchants = s.merchants := State.mountCards_merchants _ _
  have hw : tableWfD Merchant.unlisted s.cardsMounted.merchants := hm ▸ h.merchants
  have hv : sponsoredValue i s.cardsMounted.allLots = sponsoredValue i s.allLots :=
    State.cardsMounted_value h.slots (fun k => k.kind == .promo && k.sponsor == some i)
  have he : s.mountAll.merchant i = s.cardsMounted.mountTotals.mountMerchants.merchant i :=
    congrArg (tableGet Merchant.unlisted · i) s.mountAll_merchants
  have hr : s.cardsMounted.merchant i = s.merchant i := congrArg (tableGet Merchant.unlisted · i) hm
  rw [he, State.mountMerchants_merchant (State.mountTotals_merchants_wf hw).1, State.mountTotals_merchant hw, hv, hr]

/-! ### The whole mount -/

theorem State.mountAll_cardAt (h : tableWf s.cards.slots) (j : Nat) : s.mountAll.cardAt j = (s.cardAt j).bind mountedCard := by
  have : s.mountAll.cardAt j = s.cardsMounted.cardAt j := by
    unfold State.cardAt
    rw [State.mountAll_cards, State.mountTotals_frame]
  rw [this, State.cardsMounted_cardAt h]

theorem State.mountAll_directory (hw : tableWf s.cards.slots) (hn : s.NumbersOnce) (n j : Nat) :
    tableFind s.mountAll.cards.directory n = some j ↔ ∃ c, s.mountAll.cardAt j = some c ∧ c.number = n := by
  rw [State.mountAll_cardAt hw, ← State.cardsMounted_cardAt hw, State.mountAll_cards, State.mountTotals_frame]
  exact State.cardsMounted_directory hw hn n j

/-- The totals are the lots' sums, each stopped at its maximum (R180, R181). -/
theorem State.mountAll_totals (h : tableWf s.cards.slots) :
    s.mountAll.cards.paidOutstanding = min (kindValue .paid s.allLots) Config.sum48Max ∧
    s.mountAll.cards.promoOutstanding = min (kindValue .promo s.allLots) Config.sum48Max := by
  have hv : ∀ kind, kindValue kind s.cardsMounted.allLots = kindValue kind s.allLots := fun kind =>
    State.cardsMounted_value h (fun k => k.kind == kind)
  rw [State.mountAll_cards, State.mountTotals_frame, ← hv, ← hv]
  exact ⟨rfl, rfl⟩

theorem State.mountAll_value (h : tableWf s.cards.slots) (p : LotKey → Bool) :
    valueWhere p s.mountAll.allLots = valueWhere p s.allLots := by
  have : s.mountAll.allLots = s.cardsMounted.allLots := by
    unfold State.allLots
    rw [State.mountAll_cards, State.mountTotals_frame]
  rw [this, State.cardsMounted_value h]

theorem State.mountSaturates_iff (s : State) : s.mountSaturates = true ↔
    Config.sum48Max < kindValue .paid s.allLots ∨ Config.sum48Max < kindValue .promo s.allLots ∨
      ∃ i, Config.sum48Max < sponsoredValue i s.allLots := by
  have named : (∃ i ∈ lotSponsors s.allLots, Config.sum48Max < sponsoredValue i s.allLots) ↔
      ∃ i, Config.sum48Max < sponsoredValue i s.allLots := by
    refine ⟨fun ⟨i, _, hi⟩ => ⟨i, hi⟩, fun ⟨i, hi⟩ => ⟨i, ?_, hi⟩⟩
    by_contra hm
    rw [sponsoredValue_of_not_mem hm] at hi
    exact Nat.not_lt_zero _ hi
  simp [State.mountSaturates, named, or_assoc]

end

end Sys2Proof.Machine

namespace Sys2Proof.Machine

/-! ## The mount, completed and step by step (R180, R181) -/

theorem State.completeMount_frame (s : State) : s.completeMount = { s.mountAll with
    store := { s.mountAll.store with state := .ready }
    period := s.mountAll.requestExpiredCut.period
    link := s.completeMount.link } := by
  unfold State.completeMount
  dsimp only
  generalize s.mountAll = m
  generalize m.mountSaturates = b
  by_cases h : m.period.counterState = .expired <;> cases b <;>
    simp [State.requestExpiredCut, State.becomeReady, State.raise, State.raiseIf, h]

theorem State.completeMount_cards (s : State) : s.completeMount.cards = s.mountAll.cards := by
  rw [State.completeMount_frame]

theorem State.completeMount_merchant (s : State) (i : Nat) : s.completeMount.merchant i = s.mountAll.merchant i := by
  have : s.completeMount.merchants = s.mountAll.merchants := by rw [State.completeMount_frame]
  exact congrArg (tableGet Merchant.unlisted · i) this

theorem State.completeMount_cardAt (s : State) (j : Nat) : s.completeMount.cardAt j = s.mountAll.cardAt j :=
  congrArg (fun t : CardTable => tableFind t.slots j) s.completeMount_cards

theorem State.mountAll_period (s : State) : s.mountAll.period = { s.period with
    snapshot := { s.period.snapshot with
      state := if s.period.snapshot.state = .paying then .closed else s.period.snapshot.state } } := by
  rw [State.mountAll_frame]
  unfold State.mountSnapshot
  split <;> rfl

theorem State.requestExpiredCut_period (s : State) : s.requestExpiredCut.period = { s.period with
    cutPending := if s.period.counterState = .expired then .waiting else s.period.cutPending } := by
  unfold State.requestExpiredCut
  split <;> rfl

theorem State.completeMount_period (s : State) : s.completeMount.period = { s.period with
    cutPending := if s.period.counterState = .expired then .waiting else s.period.cutPending
    snapshot := { s.period.snapshot with
      state := if s.period.snapshot.state = .paying then .closed else s.period.snapshot.state } } := by
  rw [State.completeMount_frame]
  dsimp only
  rw [State.requestExpiredCut_period, State.mountAll_period]

theorem State.mountAll_latched (s : State) : s.mountAll.link = s.link ∧ s.mountAll.payout = s.payout := by
  rw [State.mountAll_frame]
  exact ⟨rfl, rfl⟩

theorem State.mountAll_stands (s : State) (c : Condition) : s.mountAll.stands c = s.stands c := by
  obtain ⟨hl, hp⟩ := s.mountAll_latched
  exact State.stands_congr (by rw [hl]) (by rw [hl]) (by rw [hp]) c

theorem State.requestExpiredCut_stands (s : State) (c : Condition) : s.requestExpiredCut.stands c = s.stands c := by
  unfold State.requestExpiredCut
  split
  · exact State.stands_congr rfl rfl rfl c
  · rfl

theorem State.becomeReady_stands (s : State) {c : Condition} {b : Bool}
    (h : (Condition.storeReady.set &&& 0x1FFC#16).getLsbD c.bit = b) : s.becomeReady.stands c = (s.stands c || b) := by
  have : ({ s with store := { s.store with state := .ready } } : State).stands c = s.stands c :=
    State.stands_congr rfl rfl rfl c
  rw [State.becomeReady, State.raise_stands _ h, this]

/-- What stands after the mount: STORE_READY, and SATURATED when a sum passed its maximum. -/
theorem State.completeMount_stands (s : State) {c : Condition} {a b : Bool}
    (hr : (Condition.storeReady.set &&& 0x1FFC#16).getLsbD c.bit = a)
    (hs : (Condition.saturated.set &&& 0x1FFC#16).getLsbD c.bit = b) :
    s.completeMount.stands c = ((s.stands c || a) || s.mountAll.mountSaturates && b) := by
  unfold State.completeMount
  dsimp only
  rw [State.raiseIf_stands _ _ hs, State.requestExpiredCut_stands, State.becomeReady_stands _ hr, State.mountAll_stands]

/-- The value by keys as a sum over the lots. -/
theorem sum_eq_valueWhere (p : LotKey → Prop) [DecidablePred p] {q : LotKey → Bool} (h : ∀ k, q k = true ↔ p k) (lots : List Lot) :
    (lots.map (fun l => if p l.key then l.available + l.held else 0)).sum = valueWhere q lots := by
  induction lots with
  | nil => rfl
  | cons l rest ih =>
    rw [List.map_cons, List.sum_cons, ih, valueWhere_cons]
    by_cases hp : p l.key
    · rw [if_pos hp, if_pos ((h _).mpr hp)]
    · rw [if_neg hp, if_neg fun hq => hp ((h _).mp hq)]

theorem sum_eq_kindValue (kind : LotKind) (lots : List Lot) :
    (lots.map (fun l => if l.key.kind = kind then l.available + l.held else 0)).sum = kindValue kind lots :=
  sum_eq_valueWhere (fun k => k.kind = kind) (fun _ => beq_iff_eq) lots

theorem sum_eq_sponsoredValue (i : Nat) (lots : List Lot) :
    (lots.map (fun l => if l.key.kind = .promo ∧ l.key.sponsor = some i then l.available + l.held else 0)).sum =
      sponsoredValue i lots :=
  sum_eq_valueWhere (fun k => k.kind = .promo ∧ k.sponsor = some i) (q := fun k => k.kind == .promo && k.sponsor == some i)
    (fun _ => by simp) lots

theorem State.numbersOnce_of {s : State}
    (h : ∀ e ∈ s.cards.slots, ∀ k ∈ s.cards.slots, e.2.number = k.2.number → e = k) : s.NumbersOnce :=
  fun _ _ _ _ hi hj e => congrArg Prod.fst (h _ (mem_of_tableFind hi) _ (mem_of_tableFind hj) e)

/-! ### The mount's single steps -/

section
variable {s : State}

/-- The next slot from `k` on that holds a card: none when they are all free. -/
theorem State.nextOccupied_none {k : Nat} (h : ∀ j, k ≤ j → s.cardAt j = none) (hw : tableWf s.cards.slots) :
    s.nextOccupied k = none := by
  have : s.cards.slots.find? (fun e => k ≤ e.1) = none := List.find?_eq_none.mpr fun e he hk => by
    have hc : s.cardAt e.1 = some e.2 := (tableFind_iff hw e.1 e.2).mpr he
    rw [h e.1 (by simpa using hk)] at hc
    cases hc
  rw [State.nextOccupied, this]
  rfl

theorem State.nextOccupied_some {k j : Nat} {c : Card} (hw : tableWf s.cards.slots) (hk : k ≤ j) (hc : s.cardAt j = some c)
    (h : ∀ i, k ≤ i → i < j → s.cardAt i = none) : s.nextOccupied k = some j := by
  unfold State.nextOccupied
  cases hf : s.cards.slots.find? (fun e => k ≤ e.1) with
  | none => exact absurd (List.find?_eq_none.mp hf _ (mem_of_tableFind hc)) (by simpa using hk)
  | some e =>
    obtain ⟨hp, before, after, hs, hb⟩ := List.find?_eq_some_iff_append.mp hf
    have he : s.cardAt e.1 = some e.2 := (tableFind_iff hw e.1 e.2).mpr (List.mem_of_find?_eq_some hf)
    have hke : k ≤ e.1 := by simpa using hp
    have hle : e.1 ≤ j := by
      have hm : (j, c) ∈ before ++ e :: after := hs ▸ mem_of_tableFind hc
      rcases List.mem_append.mp hm with hm | hm
      · exact absurd hk (by simpa using hb _ hm)
      rcases List.mem_cons.mp hm with hm | hm
      · exact (congrArg Prod.fst hm).symm.le
      · have ho : tableWf (before ++ e :: after) := hs ▸ hw
        exact Nat.le_of_lt ((List.pairwise_cons.mp (List.pairwise_append.mp ho).2.1).1 _ hm)
    rcases Nat.lt_or_eq_of_le hle with hlt | heq
    · rw [h e.1 hke hlt] at he
      cases he
    · exact congrArg some heq

/-- A mount step changes cards, merchants, the snapshot's state, settings and the mount's progress alone. -/
theorem State.mountStep_rest (s : State) : s.mountStep.store.state = s.store.state ∧ s.mountStep.link = s.link ∧
    s.mountStep.period = (if s.store.mount = .snapshot then s.mountSnapshot.period else s.period) := by
  unfold State.mountStep
  split
  case h_1 h => rw [h]; exact ⟨rfl, rfl, rfl⟩
  case h_2 h =>
    rw [h]
    split
    · rw [State.mountCard_frame]; exact ⟨rfl, rfl, rfl⟩
    · exact ⟨rfl, rfl, rfl⟩
  case h_3 h => rw [h, State.mountTotals_frame]; exact ⟨rfl, rfl, rfl⟩
  case h_4 h => rw [h]; exact ⟨rfl, rfl, rfl⟩
  case h_5 h =>
    rw [h, if_pos rfl]
    unfold State.mountSnapshot
    split <;> exact ⟨rfl, rfl, rfl⟩
  case h_6 h => rw [h]; exact ⟨rfl, rfl, rfl⟩

end

/-- Whether SATURATED is raised is a matter of the lots' sums before the mount. -/
theorem State.mountAll_saturates {s : State} (h : tableWf s.cards.slots) : s.mountAll.mountSaturates = true ↔
    Config.sum48Max < kindValue .paid s.allLots ∨ Config.sum48Max < kindValue .promo s.allLots ∨
      ∃ i, Config.sum48Max < sponsoredValue i s.allLots := by
  have hk : ∀ kind, kindValue kind s.mountAll.allLots = kindValue kind s.allLots := fun kind =>
    State.mountAll_value h fun k => k.kind == kind
  have hs : ∀ i, sponsoredValue i s.mountAll.allLots = sponsoredValue i s.allLots := fun i =>
    State.mountAll_value h fun k => k.kind == .promo && k.sponsor == some i
  rw [State.mountSaturates_iff, hk, hk]
  simp only [hs]

theorem State.completeMount_ready (s : State) : s.completeMount.store.state = .ready := by rw [State.completeMount_frame]

/-- The fields that the completed mount takes from the stored settings and routes, or leaves. -/
theorem State.completeMount_rest (s : State) : s.completeMount.routes = s.storedRoutes ∧ s.completeMount.cfg = s.settings ∧
    s.completeMount.clock = { s.clock with source := sourceOf s.settings.clockInternal } ∧
    s.completeMount.settings = s.settings ∧ s.completeMount.schedules = s.schedules ∧ s.completeMount.watch = s.watch := by
  rw [State.completeMount_frame, State.mountAll_frame]
  exact ⟨rfl, rfl, rfl, rfl, rfl, rfl⟩

/-- Settles O59: the whole mount by its parts, and each single step. -/
theorem mountCompletesReady : Obligations.MountCompletesReady := by
  refine ⟨fun s hw hm hn => ?_, fun s hp hm => ?_⟩
  · intro lots valueOf
    obtain ⟨hpaid, hpromo⟩ := State.mountAll_totals hw.slots
    have hvk : ∀ kind, valueOf (fun k => k.kind = kind) = kindValue kind s.allLots := fun kind => sum_eq_kindValue kind _
    have hvs : ∀ i, valueOf (fun k => k.kind = .promo ∧ k.sponsor = some i) = sponsoredValue i s.allLots :=
      fun i => sum_eq_sponsoredValue i _
    refine ⟨s.completeMount, ?_, s.completeMount_ready, ?_, fun j => ?_, fun n j => ?_, ?_, ?_, fun i => ?_, ?_, ?_, ?_,
      s.completeMount_rest⟩
    · exact congrArg Host.Outcome.next (if_pos hm)
    · rw [s.completeMount_stands (c := .storeReady) (a := true) (b := false) (by decide) (by decide)]
      simp
    · rw [State.completeMount_cardAt, State.mountAll_cardAt hw.slots]
      exact congrArg (Option.bind _) (funext mountedCard_eq)
    · rw [State.completeMount_cards, State.completeMount_cardAt]
      exact State.mountAll_directory hw.slots (State.numbersOnce_of hn) n j
    · rw [State.completeMount_cards, hpaid, hvk, Nat.min_comm]
    · rw [State.completeMount_cards, hpromo, hvk, Nat.min_comm]
    · rw [State.completeMount_merchant, State.mountAll_merchant hw, hvs, Nat.min_comm]
      exact ⟨rfl, rfl, rfl, rfl⟩
    · rw [s.completeMount_stands (c := .saturated) (a := false) (b := true) (by decide) (by decide), hvk, hvk]
      simp only [hvs, Bool.or_false, Bool.and_true, Bool.or_eq_true, State.mountAll_saturates hw.slots]
    · rw [State.completeMount_period]
    · rw [State.completeMount_period]
  · have hstep : step s = .next s.mountStep := by simp [step, hp, State.idle, hm]
    obtain ⟨hstate, hlink, hperiod⟩ := s.mountStep_rest
    refine ⟨s.mountStep, hstep, hstate.trans hm, s.mountStep_hold, hlink, hperiod, fun h => ?_, fun k h hw => ?_, fun h => ?_,
      fun h hw => ?_, fun h => ?_, fun h => ?_⟩
    · simp only [State.mountStep, h]
      exact ⟨rfl, rfl, rfl, rfl, rfl, rfl⟩
    · refine ⟨?_, fun hfree => ?_, fun j c hk hc hfree => ?_⟩
      · simp only [State.mountStep, h]
        split
        · rw [State.mountCard_frame]; rfl
        · rfl
      · simp only [State.mountStep, h, State.nextOccupied_none hfree hw.slots]
        exact ⟨rfl, rfl⟩
      · simp only [State.mountStep, h, State.nextOccupied_some hw.slots hk hc hfree]
        have at' : ∀ i, ((s.mountCard j).setMount (.cards (j + 1))).cardAt i = (s.mountCard j).cardAt i := fun _ => rfl
        refine ⟨rfl, fun i hi => ?_, ?_⟩
        · rw [at', State.mountCard_cardAt hw.slots, if_neg hi]
        · rw [at', State.mountCard_cardAt hw.slots, if_pos rfl, hc]
          exact mountedCard_eq c
    · simp only [State.mountStep, h]
      rw [State.mountTotals_frame]
      exact ⟨rfl, rfl, rfl, rfl⟩
    · simp only [State.mountStep, h]
      exact ⟨rfl, rfl, State.mountMerchants_merchant hw.merchants.1⟩
    · simp only [State.mountStep, h]
      exact ⟨rfl, s.mountSnapshot_cards, s.mountSnapshot_merchants⟩
    · simp only [State.mountStep, h]

end Sys2Proof.Machine

namespace Sys2Proof.Machine

/-! ## The sums that follow the lots (R19, R103) -/

/-- A value total, or a merchant's sponsored outstanding. -/
inductive Account where
  | paid
  | promo
  | sponsor (i : Nat)

/-- The lots whose value an account sums. -/
def Account.keys : Account → LotKey → Bool
  | .paid, k => k.kind == .paid
  | .promo, k => k.kind == .promo
  | .sponsor i, k => k.kind == .promo && k.sponsor == some i

/-- What stands on an account. -/
def State.total (s : State) : Account → Nat
  | .paid => s.cards.paidOutstanding
  | .promo => s.cards.promoOutstanding
  | .sponsor i => (s.merchant i).sponsored

/-- What a posting adds to an account. -/
def Account.up : Account → Posting → Nat
  | .paid, .paidUp a => a
  | .promo, .promoUp a => a
  | .sponsor i, .sponsoredUp j a => if i = j then a else 0
  | _, _ => 0

/-- What a posting takes from an account. -/
def Account.down : Account → Posting → Nat
  | .paid, .paidDown a => a
  | .promo, .promoDown a => a
  | .sponsor i, .sponsoredDown j a => if i = j then a else 0
  | _, _ => 0

/-- What postings add to an account in all. -/
def Account.ups (acc : Account) (ps : List Posting) : Nat := (ps.map acc.up).sum

/-- What postings take from an account in all. -/
def Account.downs (acc : Account) (ps : List Posting) : Nat := (ps.map acc.down).sum

@[simp] theorem Account.ups_nil (acc : Account) : acc.ups [] = 0 := rfl
@[simp] theorem Account.ups_cons (acc : Account) (p : Posting) (ps : List Posting) : acc.ups (p :: ps) = acc.up p + acc.ups ps :=
  rfl
@[simp] theorem Account.downs_nil (acc : Account) : acc.downs [] = 0 := rfl
@[simp] theorem Account.downs_cons (acc : Account) (p : Posting) (ps : List Posting) :
    acc.downs (p :: ps) = acc.down p + acc.downs ps := rfl

section
variable {s : State} {acc : Account}

/-- Below its maximum, an account moves by what the posting adds or takes (R105). -/
theorem State.total_post (h : tableWf s.merchants) (p : Posting) (hb : s.total acc < Config.sum48Max)
    (hu : s.total acc + acc.up p ≤ Config.sum48Max) : (s.post p).total acc = s.total acc + acc.up p - acc.down p := by
  cases acc with
  | paid =>
    refine (s.post_paid p).trans ?_
    cases p
    case paidUp a => exact Nat.min_eq_right hu
    case paidDown a => exact sub48_below hb
    all_goals rfl
  | promo =>
    refine (s.post_promo p).trans ?_
    cases p
    case promoUp a => exact Nat.min_eq_right hu
    case promoDown a => exact sub48_below hb
    all_goals rfl
  | sponsor i =>
    by_cases ht : p.target = some i
    · cases p <;> simp only [Posting.target, Option.some.injEq, reduceCtorEq] at ht
      case feePart m a =>
        split at ht
        · cases ht
        · next hm =>
          obtain rfl := Option.some.inj ht
          show ((s.postFee m a).merchant m).sponsored = (s.merchant m).sponsored
          rw [State.postFee_merchant h hm]
      case sponsoredUp m a =>
        subst ht
        have hu : (s.merchant m).sponsored + a ≤ Config.sum48Max := by simpa [State.total, Account.up] using hu
        show ((s.post (.sponsoredUp m a)).merchant m).sponsored = _
        rw [State.post, State.postSponsored_merchant h]
        simpa [State.total, Account.up, Account.down, add48, satAdd_eq_min] using hu
      case sponsoredDown m a =>
        subst ht
        show ((s.post (.sponsoredDown m a)).merchant m).sponsored = _
        rw [State.post, State.postSponsored_merchant h]
        simpa [State.total, Account.up, Account.down] using sub48_below hb
      all_goals
        subst ht
        show ((s.postField _ _ _ _).merchant _).sponsored = (s.merchant _).sponsored
        rw [State.postField_merchant h]
    · have hz : Account.up (.sponsor i) p = 0 ∧ Account.down (.sponsor i) p = 0 := by
        cases p
        case sponsoredUp m a =>
          have hne : i ≠ m := fun e => ht (e ▸ rfl)
          simp [Account.up, Account.down, hne]
        case sponsoredDown m a =>
          have hne : i ≠ m := fun e => ht (e ▸ rfl)
          simp [Account.up, Account.down, hne]
        all_goals exact ⟨rfl, rfl⟩
      rw [hz.1, hz.2]
      show ((s.post p).merchant i).sponsored = (s.merchant i).sponsored
      rw [s.post_merchant_ne ht]

/-- Postings that only take from an account. -/
theorem State.total_postAll_downs {ps : List Posting} (h : tableWfD Merchant.unlisted s.merchants)
    (hn : ∀ p ∈ ps, acc.up p = 0) (hb : s.total acc < Config.sum48Max) :
    (s.postAll ps).total acc = s.total acc - acc.downs ps := by
  induction ps generalizing s with
  | nil => rfl
  | cons p ps ih =>
    have hp := hn p List.mem_cons_self
    have ht : (s.post p).total acc = s.total acc - acc.down p := by
      rw [State.total_post h.1 p hb (by omega), hp, Nat.add_zero]
    have := ih (s.post_kept p h).1 (fun q hq => hn q (List.mem_cons_of_mem p hq)) (by omega)
    rw [Account.downs_cons, ← Nat.sub_sub, ← ht]
    exact this

/-- Postings that only add to an account, up to its maximum. -/
theorem State.total_postAll_ups {ps : List Posting} (h : tableWfD Merchant.unlisted s.merchants)
    (hn : ∀ p ∈ ps, acc.down p = 0) (hb : s.total acc + acc.ups ps < Config.sum48Max) :
    (s.postAll ps).total acc = s.total acc + acc.ups ps := by
  induction ps generalizing s with
  | nil => rfl
  | cons p ps ih =>
    rw [Account.ups_cons] at hb ⊢
    have hp := hn p List.mem_cons_self
    have ht : (s.post p).total acc = s.total acc + acc.up p := by
      rw [State.total_post h.1 p (by omega) (by omega), hp, Nat.sub_zero]
    have := ih (s.post_kept p h).1 (fun q hq => hn q (List.mem_cons_of_mem p hq)) (by omega)
    exact this.trans (by omega)

end

/-! ### What each list of postings adds and takes -/

section
variable (acc : Account)

theorem Account.ups_append (ps qs : List Posting) : acc.ups (ps ++ qs) = acc.ups ps + acc.ups qs := by
  simp [Account.ups]

theorem Account.downs_append (ps qs : List Posting) : acc.downs (ps ++ qs) = acc.downs ps + acc.downs qs := by
  simp [Account.downs]

theorem Account.downs_flatMap {α : Type} (f : α → List Posting) (l : List α) :
    acc.downs (l.flatMap f) = (l.map (fun a => acc.downs (f a))).sum := by
  induction l with
  | nil => rfl
  | cons a rest ih => rw [List.flatMap_cons, Account.downs_append, ih, List.map_cons, List.sum_cons]

/-- No posting of the list adds to the account. -/
abbrev Account.NoUps (ps : List Posting) : Prop := ∀ p ∈ ps, acc.up p = 0

theorem Account.NoUps.append {ps qs : List Posting} (hp : acc.NoUps ps) (hq : acc.NoUps qs) : acc.NoUps (ps ++ qs) :=
  fun p h => (List.mem_append.mp h).elim (hp p) (hq p)

theorem Account.NoUps.flatMap {α : Type} {f : α → List Posting} {l : List α} (h : ∀ a ∈ l, acc.NoUps (f a)) :
    acc.NoUps (l.flatMap f) := fun p hp => by
  obtain ⟨a, ha, hpa⟩ := List.mem_flatMap.mp hp
  exact h a ha p hpa

theorem Account.expiry_noUps (k : LotKey) (n : Nat) : acc.NoUps (expiryPostings k n) := by
  unfold expiryPostings
  split
  · exact nofun
  · cases acc <;> split <;> simp [Account.NoUps, Account.up]

theorem Account.taken_noUps (k : LotKey) (n : Nat) : acc.NoUps (takenPostings k n) := by
  unfold takenPostings
  split
  · exact nofun
  · cases acc <;> split <;> simp [Account.NoUps, Account.up]

theorem Account.lots_noUps (today : Option Nat) (lots : List Lot) : acc.NoUps (lotsPostings today lots) :=
  .flatMap acc fun l _ => by
    unfold lotPostings
    split
    · exact acc.expiry_noUps l.key l.available
    · exact nofun

theorem Account.parts_noUps (today : Option Nat) (parts : List PartEnd) :
    acc.NoUps (parts.flatMap (PartEnd.postings today)) :=
  .flatMap acc fun _ _ => .append acc (acc.expiry_noUps _ _) (acc.taken_noUps _ _)

theorem Account.capture_noUps (m a : Nat) : acc.NoUps (capturePostings m a) := by
  unfold capturePostings
  split
  · exact nofun
  · cases acc <;> simp [Account.NoUps, Account.up]

theorem Account.capture_downs (m a : Nat) : acc.downs (capturePostings m a) = 0 := by
  unfold capturePostings
  split
  · rfl
  · cases acc <;> simp [Account.down]

/-- The sponsor of a PROMO key is the one that its postings name. -/
theorem LotKey.Formed.sponsor_iff {k : LotKey} (h : k.Formed) (hk : k.kind = .promo) (i : Nat) :
    k.sponsor = some i ↔ i = k.sponsor.getD 0 := by
  rcases h with ⟨hp, -⟩ | ⟨-, j, hj, -⟩
  · rw [hk] at hp; cases hp
  · rw [Option.mem_def.mp hj]
    exact ⟨fun e => (Option.some.inj e).symm, fun e => congrArg some e.symm⟩

/-- Cents that leave the card under a PROMO key. -/
theorem Account.promo_downs {k : LotKey} (h : k.Formed) (hk : k.kind = .promo) (n : Nat) :
    acc.downs [.sponsoredDown (k.sponsor.getD 0) n, .promoDown n] = if acc.keys k then n else 0 := by
  cases acc with
  | paid => simp [Account.down, Account.keys, hk]
  | promo => simp [Account.down, Account.keys, hk]
  | sponsor i =>
    have hi := h.sponsor_iff hk i
    by_cases e : i = k.sponsor.getD 0
    · simp [Account.down, Account.keys, hk, hi.mpr e]
    · have hs : k.sponsor ≠ some i := fun h => e (hi.mp h)
      simp [Account.down, Account.keys, hk, e, hs]

/-- Cents that leave the card under a PAID key. -/
theorem Account.paid_downs {k : LotKey} (hk : k.kind = .paid) (n : Nat) :
    acc.downs [.paidDown n] = if acc.keys k then n else 0 := by
  cases acc <;> simp [Account.down, Account.keys, hk]

/-- The positions' sums are no accounts. -/
theorem Account.down_position (i n : Nat) : acc.down (.promoLapsed i n) = 0 ∧ acc.down (.sponsorCost i n) = 0 ∧
    acc.down (.breakage n) = 0 := by
  cases acc <;> exact ⟨rfl, rfl, rfl⟩

theorem Account.expiry_downs {k : LotKey} {n : Nat} (h : n ≠ 0 → k.Formed) :
    acc.downs (expiryPostings k n) = if acc.keys k then n else 0 := by
  unfold expiryPostings
  split
  · next hn => simp [hn]
  next hn =>
  split
  · next hk => rw [Account.downs_cons, acc.paid_downs hk, (acc.down_position 0 n).2.2, Nat.zero_add]
  · next hk => rw [Account.downs_cons, acc.promo_downs (h hn) hk, (acc.down_position _ n).1, Nat.zero_add]

theorem Account.taken_downs {k : LotKey} {n : Nat} (h : n ≠ 0 → k.Formed) :
    acc.downs (takenPostings k n) = if acc.keys k then n else 0 := by
  unfold takenPostings
  split
  · next hn => simp [hn]
  next hn =>
  split
  · next hk => exact acc.paid_downs hk n
  · next hk => rw [Account.downs_cons, acc.promo_downs (h hn) hk, (acc.down_position _ n).2.1, Nat.zero_add]

/-- The expiry of a card's lots takes what they lose (R21). -/
theorem Account.lots_downs (today : Option Nat) {lots : List Lot} (h : KeysFormed lots) :
    valueWhere acc.keys (expireLots today lots) + acc.downs (lotsPostings today lots) = valueWhere acc.keys lots := by
  have hd : acc.downs (lotsPostings today lots) =
      (lots.map (fun l => if acc.keys l.key && keyExpired today l.key then l.available else 0)).sum := by
    rw [lotsPostings, Account.downs_flatMap]
    refine congrArg List.sum (List.map_congr_left fun l hl => ?_)
    unfold lotPostings
    cases hx : keyExpired today l.key
    · simp
    · rw [if_pos rfl, acc.expiry_downs fun _ => h l hl, Bool.and_true]
  rw [hd, valueWhere_expire]

/-- The end of parts takes the cents expired on return and the cents taken (R58, R59). -/
theorem Account.parts_downs (today : Option Nat) {parts : List PartEnd} (h : ∀ p ∈ parts, p.taken + p.returned ≠ 0 → p.key.Formed) :
    acc.downs (parts.flatMap (PartEnd.postings today)) =
      (parts.map (fun p => if acc.keys p.key then p.expired today + p.taken else 0)).sum := by
  rw [Account.downs_flatMap]
  refine congrArg List.sum (List.map_congr_left fun p hp => ?_)
  have hx : p.expired today ≠ 0 → p.taken + p.returned ≠ 0 := fun hn he => hn (by
    have : p.returned = 0 := by omega
    simp [PartEnd.expired, this])
  rw [PartEnd.postings, Account.downs_append, acc.expiry_downs fun hn => h p hp (hx hn),
    acc.taken_downs fun hn => h p hp (by omega)]
  split <;> rfl

theorem Account.issue_noDowns (m p : Nat) (q : Option PromoIssue) : ∀ x ∈ issuePostings m p q, acc.down x = 0 := by
  have sold : ∀ x ∈ soldPostings m p, acc.down x = 0 := by
    by_cases hp : p = 0 <;> cases acc <;> simp [soldPostings, hp, Account.down]
  have promo : ∀ x ∈ promoPostings q, acc.down x = 0 := by
    cases q <;> cases acc <;> simp [promoPostings, Account.down]
  rw [issuePostings_eq]
  exact fun x hx => (List.mem_append.mp hx).elim (sold x) (promo x)

/-- An ISSUE adds the value of the new card's lots (R31, R32). -/
theorem Account.issue_ups (m p : Nat) (q : Option PromoIssue) (days day : Nat) :
    acc.ups (issuePostings m p q) = valueWhere acc.keys (issueLots (paidKey days day) p q) := by
  unfold issueLots
  rw [issuePostings_eq, Account.ups_append, valueWhere_append, Nat.add_comm]
  congr 1
  · cases q with
    | none => rfl
    | some x =>
      show acc.ups (promoPostings (some x)) = valueWhere acc.keys [⟨promoKey x.sponsor x.expiry, x.amount, 0⟩]
      rw [valueWhere_cons]
      cases acc with
      | sponsor i =>
        by_cases hi : i = x.sponsor
        · subst hi; simp [promoPostings, Account.up, Account.keys, promoKey, valueWhere, lotsValue]
        · simp [promoPostings, Account.up, Account.keys, promoKey, valueWhere, lotsValue, hi, Ne.symm hi]
      | _ => simp [promoPostings, Account.up, Account.keys, promoKey, valueWhere, lotsValue]
  · by_cases hp : p = 0
    · simp [soldPostings, hp, valueWhere, lotsValue]
    · rw [soldPostings, if_neg hp, if_neg hp, valueWhere_cons]
      cases acc <;> simp [Account.up, Account.keys, paidKey, valueWhere, lotsValue]

theorem Account.load_noDowns (m a : Nat) (q : Option PromoLoad) : ∀ x ∈ loadPostings m a q, acc.down x = 0 := by
  cases q <;> cases acc <;> simp [loadPostings, Account.down]

/-- A LOAD adds its amount under the key that it credits (R33). -/
theorem Account.load_ups (m a : Nat) (q : Option PromoLoad) (days day : Nat) :
    acc.ups (loadPostings m a q) = if acc.keys (loadKey days day q) then a else 0 := by
  cases q with
  | none => cases acc <;> simp [loadPostings, Account.up, Account.keys, loadKey, paidKey]
  | some x =>
    cases acc with
    | sponsor i =>
      by_cases hi : i = x.sponsor
      · subst hi; simp [loadPostings, Account.up, Account.keys, loadKey, promoKey]
      · simp [loadPostings, Account.up, Account.keys, loadKey, promoKey, hi, Ne.symm hi]
    | _ => simp [loadPostings, Account.up, Account.keys, loadKey, promoKey]

theorem Account.refund_noDowns (m a : Nat) : ∀ x ∈ [Posting.refunded m a, .paidUp a], acc.down x = 0 := by
  cases acc <;> simp [Account.down]

/-- A REFUND adds its amount under the paid key (R87). -/
theorem Account.refund_ups (m a days day : Nat) :
    acc.ups [.refunded m a, .paidUp a] = if acc.keys (paidKey days day) then a else 0 := by
  cases acc <;> simp [Account.up, Account.keys, paidKey]

end

end Sys2Proof.Machine

namespace Sys2Proof.Machine

/-! ## Lots: what is held under a key (R10) -/

theorem heldUnder_cons (key : LotKey) (l : Lot) (rest : List Lot) :
    heldUnder key (l :: rest) = (if l.key = key then l.held else 0) + heldUnder key rest := by
  by_cases h : l.key = key <;> simp [heldUnder, h]

theorem heldUnder_eq_sum (key : LotKey) (lots : List Lot) :
    heldUnder key lots = (lots.map (fun l => if l.key = key then l.held else 0)).sum := by
  induction lots with
  | nil => rfl
  | cons l rest ih => rw [heldUnder_cons, ih, List.map_cons, List.sum_cons]

theorem heldUnder_dropEmpty (key : LotKey) (lots : List Lot) : heldUnder key (dropEmpty lots) = heldUnder key lots := by
  induction lots with
  | nil => rfl
  | cons l rest ih =>
    unfold dropEmpty at ih ⊢
    rw [List.filter_cons]
    split
    · rw [heldUnder_cons, heldUnder_cons, ih]
    · next h =>
      have hz : l.held = 0 := by
        simp only [decide_eq_true_eq] at h
        omega
      rw [heldUnder_cons, ih, hz, ite_self, Nat.zero_add]

/-- A change of lots that keeps keys and held keeps what is held under each key. -/
theorem heldUnder_map {f : Lot → Lot} (hk : ∀ l, (f l).key = l.key) (hh : ∀ l, (f l).held = l.held) (key : LotKey)
    (lots : List Lot) : heldUnder key (lots.map f) = heldUnder key lots := by
  rw [heldUnder_eq_sum, heldUnder_eq_sum, List.map_map]
  refine congrArg List.sum (List.map_congr_left fun l _ => ?_)
  simp only [Function.comp, hk, hh]

theorem heldUnder_expire (key : LotKey) (today : Option Nat) (lots : List Lot) :
    heldUnder key (expireLots today lots) = heldUnder key lots :=
  (heldUnder_dropEmpty key _).trans (heldUnder_map (expireLot_key today) (expireLot_held today) key lots)

theorem heldUnder_credit (key k : LotKey) (a : Nat) (lots : List Lot) :
    heldUnder key (creditLots k a lots) = heldUnder key lots := by
  by_cases h : hasKey k lots = true
  · rw [creditLots_merge a h]
    exact heldUnder_map (fun l => by split <;> rfl) (fun l => by split <;> rfl) key lots
  · rw [creditLots_insert a (by simpa using h), heldUnder_eq_sum, ((insertLot_perm _ lots).map _).sum_eq, List.map_cons,
      List.sum_cons, ← heldUnder_eq_sum, ite_self, Nat.zero_add]

theorem heldUnder_draw (key : LotKey) (a : Nat) (lots : List Lot) : heldUnder key (drawLots a lots) = heldUnder key lots := by
  induction lots generalizing a with
  | nil => rfl
  | cons l rest ih => rw [drawLots, heldUnder_cons, heldUnder_cons, ih]

theorem heldUnder_restored (key : LotKey) (lots : List Lot) : heldUnder key (lots.map Lot.restored) = 0 := by
  induction lots with
  | nil => rfl
  | cons l rest ih => rw [List.map_cons, heldUnder_cons, ih]; exact ite_self 0

theorem heldUnder_issue (key k : LotKey) (p : Nat) (q : Option PromoIssue) : heldUnder key (issueLots k p q) = 0 := by
  unfold issueLots
  cases q <;> by_cases hp : p = 0 <;> simp [hp, heldUnder_cons, show heldUnder key [] = 0 from rfl]

/-! ### Reserved cents -/

/-- The cents of parts under a key. -/
def partsUnder (key : LotKey) (parts : List Part) : Nat := ((parts.filter (fun p => p.key == key)).map (·.cents)).sum

theorem partsUnder_cons (key : LotKey) (p : Part) (rest : List Part) :
    partsUnder key (p :: rest) = (if p.key = key then p.cents else 0) + partsUnder key rest := by
  by_cases h : p.key = key <;> simp [partsUnder, h]

theorem partsUnder_append (key : LotKey) (ps qs : List Part) : partsUnder key (ps ++ qs) = partsUnder key ps + partsUnder key qs := by
  simp [partsUnder]

theorem reservedBy_cons (key : LotKey) (h : Hold) (rest : List Hold) :
    reservedBy key (h :: rest) = partsUnder key h.parts + reservedBy key rest := by
  simp [reservedBy, partsUnder]

theorem reservedBy_append (key : LotKey) (hs ks : List Hold) : reservedBy key (hs ++ ks) = reservedBy key hs + reservedBy key ks := by
  simp [reservedBy]

theorem reservedBy_perm {hs ks : List Hold} (h : hs.Perm ks) (key : LotKey) : reservedBy key hs = reservedBy key ks :=
  (((h.flatMap_right _).filter _).map _).sum_eq

/-- A reservation moves its parts to the held of their keys (R10, R55). -/
theorem heldUnder_reserve (key : LotKey) (a : Nat) (lots : List Lot) :
    heldUnder key (reserveLots a lots) = heldUnder key lots + partsUnder key (partsOf a lots) := by
  induction lots generalizing a with
  | nil => rfl
  | cons l rest ih =>
    rw [reserveLots, heldUnder_cons, heldUnder_cons, ih, partsOf_cons, partsUnder_append]
    have hp : partsUnder key (if min a l.available = 0 then [] else [⟨l.key, min a l.available⟩]) =
        if l.key = key then min a l.available else 0 := by
      by_cases hz : min a l.available = 0
      · rw [if_pos hz, hz, ite_self]; rfl
      · rw [if_neg hz, partsUnder_cons]; rfl
    rw [hp]
    dsimp only
    split <;> omega

/-! ## Lots: value by keys -/

theorem valueWhere_eq_sum (p : LotKey → Bool) (lots : List Lot) :
    valueWhere p lots = (lots.map (fun l => if p l.key then l.available + l.held else 0)).sum := by
  induction lots with
  | nil => rfl
  | cons l rest ih => rw [valueWhere_cons, ih, List.map_cons, List.sum_cons]

/-- A change of the one lot that has a key changes a sum by what that lot counts. -/
theorem sum_updateLot {key : LotKey} {lots : List Lot} (hd : (lots.map (·.key)).Nodup) {x : Lot} (hx : x ∈ lots)
    (hk : x.key = key) (f : Lot → Lot) (g : Lot → Nat) :
    ((lots.map (fun l => if l.key = key then f l else l)).map g).sum + g x = (lots.map g).sum + g (f x) := by
  induction lots with
  | nil => cases hx
  | cons l rest ih =>
    obtain ⟨hl, hr⟩ := List.nodup_cons.mp hd
    rcases List.mem_cons.mp hx with rfl | hx
    · have hrest : rest.map (fun l => if l.key = key then f l else l) = rest := by
        refine (List.map_congr_left fun y hy => if_neg fun hy' => hl ?_).trans (List.map_id rest)
        exact List.mem_map.mpr ⟨y, hy, hy'.trans hk.symm⟩
      simp only [List.map_cons, hk, if_true, List.sum_cons, hrest]
      omega
    · have hne : l.key ≠ key := fun e => hl (List.mem_map.mpr ⟨x, hx, hk.trans e.symm⟩)
      have := ih hr hx
      simp only [List.map_cons, hne, if_false, List.sum_cons]
      omega

/-- A credit adds its amount under its key (R6). -/
theorem valueWhere_credit (p : LotKey → Bool) (k : LotKey) (a : Nat) {lots : List Lot} (hd : (lots.map (·.key)).Nodup) :
    valueWhere p (creditLots k a lots) = valueWhere p lots + if p k then a else 0 := by
  by_cases h : hasKey k lots = true
  · obtain ⟨x, hx, hxk⟩ := hasKey_iff.mp h
    have := sum_updateLot hd hx hxk (fun l => { l with available := l.available + a })
      (fun l => if p l.key then l.available + l.held else 0)
    rw [creditLots_merge a h, valueWhere_eq_sum, valueWhere_eq_sum, mergeCredit]
    dsimp only at this
    rw [hxk] at this
    by_cases hp : p k = true
    · simp only [if_pos hp] at this ⊢
      omega
    · simp only [if_neg hp] at this ⊢
      omega
  · rw [creditLots_insert a (by simpa using h), valueWhere_eq_sum, valueWhere_eq_sum, ((insertLot_perm _ lots).map _).sum_eq,
      List.map_cons, List.sum_cons, Nat.add_comm]
    rfl

/-- A draw takes its parts' cents (R65). -/
theorem valueWhere_draw (p : LotKey → Bool) (a : Nat) (lots : List Lot) :
    valueWhere p (drawLots a lots) + ((partsOf a lots).map (fun q => if p q.key then q.cents else 0)).sum = valueWhere p lots := by
  induction lots generalizing a with
  | nil => rfl
  | cons l rest ih =>
    have hr := ih (a - min a l.available)
    rw [drawLots, valueWhere_cons, valueWhere_cons, partsOf_cons, List.map_append, List.sum_append]
    have hp : ((if min a l.available = 0 then [] else [(⟨l.key, min a l.available⟩ : Part)]).map
        (fun q => if p q.key then q.cents else 0)).sum = if p l.key then min a l.available else 0 := by
      by_cases hz : min a l.available = 0
      · simp [hz]
      · rw [if_neg hz]; simp
    rw [hp]
    dsimp only
    split <;> omega

/-! ### The end of a hold's parts (R58) -/

/-- The cents of ended parts under a key. -/
def centsUnder (key : LotKey) (parts : List PartEnd) : Nat :=
  (parts.map (fun p => if p.key = key then p.taken + p.returned else 0)).sum

/-- Splitting parts into taken and returned cents keeps their sums. -/
theorem centsUnder_split (key : LotKey) (taken : Nat) (parts : List Part) :
    centsUnder key (splitParts taken parts) = partsUnder key parts := by
  induction parts generalizing taken with
  | nil => rfl
  | cons p rest ih =>
    have hr := ih (taken - min taken p.cents)
    rw [partsUnder_cons, ← hr]
    simp only [centsUnder, splitParts, List.map_cons, List.sum_cons]
    split <;> omega

/-- A lot's held under its key, where keys are distinct. -/
theorem heldUnder_of_mem {lots : List Lot} (hd : (lots.map (·.key)).Nodup) {l : Lot} (h : l ∈ lots) :
    heldUnder l.key lots = l.held := by
  induction lots with
  | nil => cases h
  | cons x rest ih =>
    obtain ⟨hx, hr⟩ := List.nodup_cons.mp hd
    rw [heldUnder_cons]
    rcases List.mem_cons.mp h with rfl | h
    · have hz : heldUnder l.key rest = 0 := by
        rw [heldUnder_eq_sum]
        refine List.sum_eq_zero fun n hn => ?_
        obtain ⟨y, hy, rfl⟩ := List.mem_map.mp hn
        exact if_neg fun e => hx (List.mem_map.mpr ⟨y, hy, e⟩)
      rw [if_pos rfl, hz, Nat.add_zero]
    · rw [if_neg fun e => hx (List.mem_map.mpr ⟨l, h, e.symm⟩), ih hr h, Nat.zero_add]

theorem exists_of_heldUnder {key : LotKey} {lots : List Lot} (h : heldUnder key lots ≠ 0) : ∃ l ∈ lots, l.key = key := by
  by_contra hn
  push Not at hn
  refine h ?_
  rw [heldUnder_eq_sum]
  refine List.sum_eq_zero fun n hm => ?_
  obtain ⟨y, hy, rfl⟩ := List.mem_map.mp hm
  exact if_neg (hn y hy)

/-- Lots with distinct keys, and nothing available in an expired one: the lots of a card after its expiry. -/
structure LotsCurrent (today : Option Nat) (lots : List Lot) : Prop where
  distinct : (lots.map (·.key)).Nodup
  spent : ∀ l ∈ lots, keyExpired today l.key = true → l.available = 0

theorem LotsFormed.current {lots : List Lot} (h : LotsFormed lots) (today : Option Nat) :
    LotsCurrent today (expireLots today lots) := by
  refine ⟨h.distinct.sublist (expireLots_keys today lots), fun l hl hx => ?_⟩
  obtain ⟨x, -, rfl⟩ := List.mem_map.mp (List.mem_filter.mp hl).1
  rw [expireLot_key] at hx
  rw [expireLot, if_pos hx]

theorem LotsCurrent.endPart {today : Option Nat} {lots : List Lot} (h : LotsCurrent today lots) (p : PartEnd) :
    LotsCurrent today (endPart today lots p) := by
  refine ⟨by rw [endPart_keys]; exact h.distinct, fun l hl hx => ?_⟩
  obtain ⟨x, hx', rfl⟩ := List.mem_map.mp hl
  by_cases hk : x.key = p.key
  · rw [if_pos hk, expireLot_key] at hx
    rw [if_pos hk, expireLot, if_pos hx]
  · rw [if_neg hk] at hx ⊢
    exact h.spent x hx' hx

/-- The lot of a part's key after the end of the part. -/
abbrev endedLot (today : Option Nat) (p : PartEnd) (l : Lot) : Lot :=
  expireLot today { l with available := l.available + p.returned, held := l.held - (p.taken + p.returned) }

theorem endPart_eq (today : Option Nat) (lots : List Lot) (p : PartEnd) :
    endPart today lots p = lots.map (fun l => if l.key = p.key then endedLot today p l else l) := rfl

/-- The lot loses the cents taken, and those that expire as they return. -/
theorem endedLot_value {today : Option Nat} {p : PartEnd} {l : Lot} (hk : l.key = p.key)
    (hs : keyExpired today l.key = true → l.available = 0) (hh : p.taken + p.returned ≤ l.held) :
    (endedLot today p l).available + (endedLot today p l).held + (p.expired today + p.taken) = l.available + l.held := by
  unfold endedLot expireLot PartEnd.expired
  rw [hk] at hs ⊢
  split
  · next hx =>
    have := hs hx
    dsimp only
    omega
  · dsimp only
    omega

/-- The part's cents leave the held of its key; those taken, and those returned to an expired lot, leave the card. -/
theorem endPart_sums {today : Option Nat} {lots : List Lot} (h : LotsCurrent today lots) {p : PartEnd}
    (hp : p.taken + p.returned ≤ heldUnder p.key lots) (key : LotKey) (q : LotKey → Bool) :
    heldUnder key (endPart today lots p) + (if p.key = key then p.taken + p.returned else 0) = heldUnder key lots ∧
    valueWhere q (endPart today lots p) + (if q p.key then p.expired today + p.taken else 0) = valueWhere q lots := by
  by_cases hz : heldUnder p.key lots = 0
  · have ht : p.taken = 0 ∧ p.returned = 0 := by omega
    have hsame : endPart today lots p = lots := by
      refine (List.map_congr_left fun l hl => ?_).trans (List.map_id lots)
      split
      · next hk =>
        have hheld : l.held = 0 := by rw [← heldUnder_of_mem h.distinct hl, hk, hz]
        have hs := h.spent l hl
        obtain ⟨k, a, held⟩ := l
        simp only [expireLot, ht.1, ht.2, id]
        split
        · next hx => simp_all
        · simp
      · rfl
    have hexp : p.expired today = 0 := by simp [PartEnd.expired, ht.2]
    rw [hsame, ht.1, ht.2, hexp]
    simp
  · obtain ⟨l, hl, hk⟩ := exists_of_heldUnder hz
    have hheld := heldUnder_of_mem h.distinct hl
    have hs := h.spent l hl
    rw [hk] at hheld hs
    have hv := endedLot_value hk (by rw [hk]; exact hs) (by rw [← hheld]; exact hp)
    have hsum := fun g => sum_updateLot h.distinct hl hk (endedLot today p) g
    have hkey : (endedLot today p l).key = p.key := (expireLot_key _ _).trans hk
    have hnow : (endedLot today p l).held = l.held - (p.taken + p.returned) := expireLot_held _ _
    constructor
    · have := hsum (fun l => if l.key = key then l.held else 0)
      rw [heldUnder_eq_sum, heldUnder_eq_sum, endPart_eq]
      simp only [hkey, hk, hnow] at this
      by_cases hp : p.key = key
      · simp only [if_pos hp] at this ⊢
        omega
      · simp only [if_neg hp] at this ⊢
        omega
    · have := hsum (fun l => if q l.key then l.available + l.held else 0)
      rw [valueWhere_eq_sum, valueWhere_eq_sum, endPart_eq]
      simp only [hkey, hk] at this
      by_cases hq : q p.key = true
      · simp only [if_pos hq] at this ⊢
        omega
      · simp only [if_neg hq] at this ⊢
        omega

/-- The end of parts that are held (R58): each key's held falls by its parts' cents, and the value by the cents taken and
those expired on return. -/
theorem endParts_sums {today : Option Nat} {parts : List PartEnd} {lots : List Lot} (h : LotsCurrent today lots)
    (hp : ∀ key, centsUnder key parts ≤ heldUnder key lots) (key : LotKey) (q : LotKey → Bool) :
    heldUnder key (parts.foldl (endPart today) lots) + centsUnder key parts = heldUnder key lots ∧
    valueWhere q (parts.foldl (endPart today) lots) +
      (parts.map (fun p => if q p.key then p.expired today + p.taken else 0)).sum = valueWhere q lots := by
  induction parts generalizing lots with
  | nil => exact ⟨rfl, rfl⟩
  | cons p rest ih =>
    have hcons : ∀ key, centsUnder key (p :: rest) = (if p.key = key then p.taken + p.returned else 0) + centsUnder key rest :=
      fun _ => rfl
    have hhere : p.taken + p.returned ≤ heldUnder p.key lots := by
      have := hp p.key
      rw [hcons, if_pos rfl] at this
      omega
    obtain ⟨hh, hv⟩ := endPart_sums h hhere key q
    have hrest : ∀ k, centsUnder k rest ≤ heldUnder k (endPart today lots p) := fun k => by
      have := hp k
      have := (endPart_sums h hhere k q).1
      rw [hcons] at *
      omega
    obtain ⟨ih1, ih2⟩ := ih (h.endPart p) hrest
    rw [List.foldl_cons, hcons, List.map_cons, List.sum_cons]
    omega

/-- The lots of a card after the end of a hold (R58). -/
theorem endLots_sums {today : Option Nat} {parts : List PartEnd} {lots : List Lot} (h : LotsFormed lots)
    (hp : ∀ key, centsUnder key parts ≤ heldUnder key lots) (key : LotKey) (q : LotKey → Bool) :
    heldUnder key (endLots today parts lots) + centsUnder key parts = heldUnder key lots ∧
    valueWhere q (endLots today parts lots) +
      (parts.map (fun p => if q p.key then p.expired today + p.taken else 0)).sum = valueWhere q (expireLots today lots) := by
  have := endParts_sums (h.current today) (parts := parts) (fun k => by rw [heldUnder_expire]; exact hp k) key q
  rw [heldUnder_expire] at this
  unfold endLots
  rw [heldUnder_dropEmpty, valueWhere_dropEmpty]
  exact this

end Sys2Proof.Machine

namespace Sys2Proof.Machine

/-! ## Holds, baskets and the lapse list together (R50, R69, R74, R76, R80) -/

section
variable {t u : HoldTable} {h e : Hold}

/-- Holds with distinct numbers are equal when their numbers are. -/
theorem hold_ext (hn : (t.holds.map (·.number)).Nodup) (hh : h ∈ t.holds) (he : e ∈ t.holds) (k : h.number = e.number) : h = e :=
  List.inj_on_of_nodup_map hn hh he k

theorem HoldTable.Agrees.basket_ext (a : t.Agrees) {b k : Basket} (hb : b ∈ t.baskets) (hk : k ∈ t.baskets)
    (e : b.number = k.number) : b = k := List.inj_on_of_nodup_map a.basketNumbers hb hk e

theorem HoldTable.Agrees.congr (a : t.Agrees) (hh : u.holds = t.holds) (hb : u.baskets = t.baskets) (hl : u.lapse = t.lapse) :
    u.Agrees := by
  obtain ⟨h1, h2, h3, h4, h5, h6, h7, h8, h9⟩ := a
  rw [← hh] at h1 h4 h5 h6 h8
  rw [← hb] at h2 h3 h4 h5 h6 h9
  rw [← hl] at h7 h8 h9
  exact ⟨h1, h2, h3, h4, h5, h6, h7, h8, h9⟩

theorem HoldTable.Agrees.empty (hh : t.holds = []) (hb : t.baskets = []) (hl : t.lapse = []) : t.Agrees := by
  refine ⟨?_, ?_, ?_, ?_, ?_, ?_, ?_, ?_, ?_⟩ <;> simp [hh, hb, hl]

/-! ### A hold that becomes FREE (R58, R81) -/

/-- The baskets after a hold is freed: without it as a member, and without the LAPSING basket that it leaves empty. -/
theorem mem_freeHold_iff {b : Basket} : b ∈ (t.freeHold h).baskets ↔
    (∃ k ∈ t.baskets, b = if h.basket = some k.number then k.without h.number else k) ∧
      ¬ (h.basket = some b.number ∧ b.state = .lapsing ∧ b.members = []) := by
  unfold HoldTable.freeHold
  cases h.basket with
  | none => simp
  | some n =>
    have hne : ∀ k : Basket, (k.number = n ↔ some n = some k.number) := fun k =>
      ⟨fun e => congrArg some e.symm, fun e => (Option.some.inj e).symm⟩
    simp only [List.mem_filter, List.mem_map, Bool.not_eq_true', Bool.and_eq_false_iff, decide_eq_false_iff_not, hne,
      List.isEmpty_eq_false_iff, eq_comm (b := b)]
    tauto

theorem mem_freeHold {x : Hold} : x ∈ (t.freeHold h).holds ↔ x ∈ t.holds ∧ x.number ≠ h.number := by
  simp [HoldTable.freeHold]

/-- A basket that stands has all its members but the freed hold. -/
theorem HoldTable.Agrees.freed_members (a : t.Agrees) (hh : h ∈ t.holds) {k : Basket} (hk : k ∈ t.baskets) (n : Nat) :
    n ∈ (if h.basket = some k.number then k.without h.number else k).members ↔ n ∈ k.members ∧ n ≠ h.number := by
  split
  · simp [Basket.without]
  · next hb =>
    refine (and_iff_left_of_imp fun hn e => hb ?_).symm
    obtain ⟨x, hx, hxn, hxb⟩ := (a.memberIff k hk n).mp hn
    rwa [← hold_ext a.numbers hx hh (hxn.trans e)]

theorem freed_same (h : Hold) (k : Basket) :
    (if h.basket = some k.number then k.without h.number else k).number = k.number ∧
    (if h.basket = some k.number then k.without h.number else k).state = k.state ∧
    (if h.basket = some k.number then k.without h.number else k).merchant = k.merchant := by
  split <;> exact ⟨rfl, rfl, rfl⟩

/-- The laws of holds and baskets after a hold is freed, but for the lapse list. -/
theorem HoldTable.Agrees.freeHold (a : t.Agrees) (hh : h ∈ t.holds) {lapse : List LapseItem}
    (once : lapse.Nodup)
    (hold : ∀ n, LapseItem.hold n ∈ lapse ↔ ∃ x ∈ (t.freeHold h).holds, x.number = n ∧ x.state = .lapsing)
    (basket : ∀ n, LapseItem.basket n ∈ lapse ↔
      ∃ b ∈ (t.freeHold h).baskets, b.number = n ∧ b.state = .lapsing ∧ b.members = []) :
    HoldTable.Agrees { t.freeHold h with lapse := lapse } := by
  refine ⟨a.numbers.sublist (List.filter_sublist.map _), a.basketNumbers.sublist (t.freeHold_numbers h), fun b hb => ?_,
    fun b hb n => ?_, fun x hx n hn => ?_, fun x hx b hb hxb => ?_, once, hold, basket⟩
  · rcases mem_freeHold_baskets hb with hb | ⟨k, hk, rfl⟩
    · exact a.members b hb
    · exact (a.members k hk).filter _
  · obtain ⟨⟨k, hk, rfl⟩, -⟩ := mem_freeHold_iff.mp hb
    rw [a.freed_members hh hk, (freed_same h k).1, a.memberIff k hk]
    constructor
    · rintro ⟨⟨x, hx, hxn, hxb⟩, hne⟩
      exact ⟨x, mem_freeHold.mpr ⟨hx, hxn ▸ hne⟩, hxn, hxb⟩
    · rintro ⟨x, hx, hxn, hxb⟩
      obtain ⟨hx, hne⟩ := mem_freeHold.mp hx
      exact ⟨⟨x, hx, hxn, hxb⟩, hxn ▸ hne⟩
  · obtain ⟨hx, hne⟩ := mem_freeHold.mp hx
    obtain ⟨k, hk, hkn⟩ := a.joined x hx n hn
    have hs := freed_same h k
    refine ⟨_, mem_freeHold_iff.mpr ⟨⟨k, hk, rfl⟩, fun hc => ?_⟩, hs.1.trans hkn⟩
    have hm := (a.freed_members hh hk x.number).mpr ⟨(a.memberIff k hk _).mpr ⟨x, hx, rfl, hn.trans (congrArg some hkn.symm)⟩, hne⟩
    rw [hc.2.2] at hm
    cases hm
  · obtain ⟨hx, -⟩ := mem_freeHold.mp hx
    obtain ⟨⟨k, hk, rfl⟩, -⟩ := mem_freeHold_iff.mp hb
    obtain ⟨hnum, hst, hmer⟩ := freed_same h k
    rw [hst, hmer]
    exact a.same x hx k hk (hnum ▸ hxb)

/-- An OPEN hold is freed. -/
theorem HoldTable.Agrees.freeOpen (a : t.Agrees) (hh : h ∈ t.holds) (ho : h.state = .opened) : (t.freeHold h).Agrees := by
  refine a.freeHold hh a.lapseOnce (fun n => ?_) (fun n => ?_)
  · refine (a.lapseHold n).trans ⟨?_, ?_⟩
    · rintro ⟨x, hx, hxn, hxs⟩
      refine ⟨x, mem_freeHold.mpr ⟨hx, fun e => ?_⟩, hxn, hxs⟩
      obtain rfl := hold_ext a.numbers hx hh e
      rw [ho] at hxs
      cases hxs
    · rintro ⟨x, hx, hxn, hxs⟩
      exact ⟨x, (mem_freeHold.mp hx).1, hxn, hxs⟩
  · have away : ∀ k ∈ t.baskets, k.state = .lapsing → h.basket ≠ some k.number := fun k hk hks hb => by
      have := (a.same h hh k hk hb).1
      rw [ho, hks] at this
      cases this
    refine (a.lapseBasket n).trans ⟨?_, ?_⟩
    · rintro ⟨k, hk, hkn, hks, hkm⟩
      refine ⟨k, mem_freeHold_iff.mpr ⟨⟨k, hk, (if_neg (away k hk hks)).symm⟩, fun hc => away k hk hks hc.1⟩, hkn, hks, hkm⟩
    · rintro ⟨b, hb, hbn, hbs, hbm⟩
      obtain ⟨⟨k, hk, rfl⟩, -⟩ := mem_freeHold_iff.mp hb
      rw [(freed_same h k).2.1] at hbs
      rw [if_neg (away k hk hbs)] at hbn hbm
      exact ⟨k, hk, hbn, hbs, hbm⟩

/-- The oldest LAPSING hold is freed, and leaves the lapse list (R70, R81). -/
theorem HoldTable.Agrees.freeLapsing (a : t.Agrees) (hh : h ∈ t.holds) {rest : List LapseItem}
    (hl : t.lapse = .hold h.number :: rest) : HoldTable.Agrees { t.freeHold h with lapse := rest } := by
  have once := a.lapseOnce
  rw [hl] at once
  obtain ⟨hout, hrest⟩ := List.nodup_cons.mp once
  refine a.freeHold hh hrest (fun n => ?_) (fun n => ?_)
  · have hmem : LapseItem.hold n ∈ rest ↔ LapseItem.hold n ∈ t.lapse ∧ n ≠ h.number := by
      rw [hl, List.mem_cons]
      constructor
      · exact fun hm => ⟨.inr hm, fun e => hout (e ▸ hm)⟩
      · rintro ⟨he | hm, hne⟩
        · exact absurd (LapseItem.hold.inj he) hne
        · exact hm
    rw [hmem, a.lapseHold]
    constructor
    · rintro ⟨⟨x, hx, hxn, hxs⟩, hne⟩
      exact ⟨x, mem_freeHold.mpr ⟨hx, hxn ▸ hne⟩, hxn, hxs⟩
    · rintro ⟨x, hx, hxn, hxs⟩
      obtain ⟨hx, hne⟩ := mem_freeHold.mp hx
      exact ⟨⟨x, hx, hxn, hxs⟩, hxn ▸ hne⟩
  · have hmem : LapseItem.basket n ∈ rest ↔ LapseItem.basket n ∈ t.lapse := by
      rw [hl, List.mem_cons]
      exact ⟨.inr, fun hm => hm.resolve_left nofun⟩
    have named : ∀ k ∈ t.baskets, h.basket = some k.number → h.number ∈ k.members := fun k hk hb =>
      (a.memberIff k hk _).mpr ⟨h, hh, rfl, hb⟩
    rw [hmem, a.lapseBasket]
    constructor
    · rintro ⟨k, hk, hkn, hks, hkm⟩
      have hb : h.basket ≠ some k.number := fun hb => by
        have := named k hk hb
        rw [hkm] at this
        cases this
      exact ⟨k, mem_freeHold_iff.mpr ⟨⟨k, hk, (if_neg hb).symm⟩, fun hc => hb hc.1⟩, hkn, hks, hkm⟩
    · rintro ⟨b, hb, hbn, hbs, hbm⟩
      obtain ⟨⟨k, hk, rfl⟩, hkeep⟩ := mem_freeHold_iff.mp hb
      have hne : h.basket ≠ some k.number := fun hkb => hkeep ⟨by rw [(freed_same h k).1]; exact hkb, hbs, hbm⟩
      rw [if_neg hne] at hbn hbs hbm
      exact ⟨k, hk, hbn, hbs, hbm⟩

/-! ### A basket that becomes FREE (R81, R84, R86) -/

/-- A basket that no hold names is freed; the lapse list holds no item of it any more. -/
theorem HoldTable.Agrees.freeBasket (a : t.Agrees) (n : Nat) (hn : ∀ x ∈ t.holds, x.basket ≠ some n)
    {lapse : List LapseItem} (once : lapse.Nodup) (hold : ∀ m, LapseItem.hold m ∈ lapse ↔ LapseItem.hold m ∈ t.lapse)
    (basket : ∀ m, LapseItem.basket m ∈ lapse ↔ LapseItem.basket m ∈ t.lapse ∧ m ≠ n) :
    HoldTable.Agrees { t with baskets := t.baskets.filter (fun b => b.number ≠ n), lapse := lapse } := by
  have mem : ∀ {b : Basket}, b ∈ t.baskets.filter (fun b => b.number ≠ n) ↔ b ∈ t.baskets ∧ b.number ≠ n := by simp
  refine ⟨a.numbers, a.basketNumbers.sublist (List.filter_sublist.map _), fun b hb => a.members b (mem.mp hb).1,
    fun b hb => a.memberIff b (mem.mp hb).1, fun x hx m hm => ?_, fun x hx b hb => a.same x hx b (mem.mp hb).1, once,
    fun m => (hold m).trans (a.lapseHold m), fun m => ?_⟩
  · obtain ⟨b, hb, hbn⟩ := a.joined x hx m hm
    exact ⟨b, mem.mpr ⟨hb, fun e => hn x hx (hm.trans (congrArg some (hbn.symm.trans e)))⟩, hbn⟩
  · rw [basket, a.lapseBasket]
    constructor
    · rintro ⟨⟨b, hb, hbm, hrest⟩, hne⟩
      exact ⟨b, mem.mpr ⟨hb, hbm ▸ hne⟩, hbm, hrest⟩
    · rintro ⟨b, hb, hbm, hrest⟩
      obtain ⟨hb, hne⟩ := mem.mp hb
      exact ⟨⟨b, hb, hbm, hrest⟩, hbm ▸ hne⟩

/-- An OPEN basket that no hold names is freed. -/
theorem HoldTable.Agrees.freeOpenBasket (a : t.Agrees) (n : Nat) (hn : ∀ x ∈ t.holds, x.basket ≠ some n)
    (ho : ∀ b ∈ t.baskets, b.number = n → b.state = .opened) :
    HoldTable.Agrees { t with baskets := t.baskets.filter (fun b => b.number ≠ n) } := by
  refine a.freeBasket n hn a.lapseOnce (fun _ => .rfl) fun m => (and_iff_left_of_imp fun hm e => ?_).symm
  obtain ⟨b, hb, hbm, hbs, -⟩ := (a.lapseBasket m).mp hm
  have := ho b hb (hbm.trans e)
  rw [hbs] at this
  cases this

/-- The oldest LAPSING basket without members is freed, and leaves the lapse list (R81). -/
theorem HoldTable.Agrees.freeEmptyBasket (a : t.Agrees) {n : Nat} {rest : List LapseItem} (hl : t.lapse = .basket n :: rest) :
    HoldTable.Agrees { t with baskets := t.baskets.filter (fun b => b.number ≠ n), lapse := rest } := by
  have once := a.lapseOnce
  rw [hl] at once
  obtain ⟨hout, hrest⟩ := List.nodup_cons.mp once
  refine a.freeBasket n (fun x hx hxb => ?_) hrest (fun m => ?_) fun m => ?_
  · obtain ⟨b, hb, hbn, -, hbm⟩ := (a.lapseBasket n).mp (hl ▸ List.mem_cons_self)
    have := (a.memberIff b hb x.number).mpr ⟨x, hx, rfl, hxb.trans (congrArg some hbn.symm)⟩
    rw [hbm] at this
    cases this
  · rw [hl, List.mem_cons]
    exact ⟨.inr, fun hm => hm.resolve_left nofun⟩
  · rw [hl, List.mem_cons]
    constructor
    · exact fun hm => ⟨.inr hm, fun e => hout (e ▸ hm)⟩
    · rintro ⟨he | hm, hne⟩
      · exact absurd (LapseItem.basket.inj he) hne
      · exact hm

/-! ### New entries (R50, R57, R76, R79) -/

/-- A basket after a new hold has joined the table. -/
abbrev Basket.joined (h : Hold) (b : Basket) : Basket :=
  if h.basket = some b.number then { b with members := b.members ++ [h.number] } else b

theorem Basket.joined_same (h : Hold) (b : Basket) :
    (b.joined h).number = b.number ∧ (b.joined h).state = b.state ∧ (b.joined h).merchant = b.merchant := by
  unfold Basket.joined
  split <;> exact ⟨rfl, rfl, rfl⟩

theorem Basket.mem_joined (h : Hold) (b : Basket) (n : Nat) :
    n ∈ (b.joined h).members ↔ n ∈ b.members ∨ h.number = n ∧ h.basket = some b.number := by
  unfold Basket.joined
  split
  · next hb => simp [hb, eq_comm]
  · next hb => simp [hb]

/-- A new hold with a number of its own joins the table, and the OPEN basket it names. -/
theorem HoldTable.Agrees.addHold (a : t.Agrees) (hf : h.number ∉ t.holds.map (·.number)) (ho : h.state = .opened)
    (hj : ∀ n, h.basket = some n → ∃ b ∈ t.baskets, b.number = n ∧ b.state = .opened ∧ b.merchant = h.merchant) :
    (t.addHold h).Agrees := by
  have mem : ∀ {x : Hold}, x ∈ (t.addHold h).holds ↔ x ∈ t.holds ∨ x = h := by simp [HoldTable.addHold]
  have fresh : ∀ x ∈ t.holds, x.number ≠ h.number := fun x hx e => hf (List.mem_map.mpr ⟨x, hx, e⟩)
  have memB : ∀ {b : Basket}, b ∈ (t.addHold h).baskets ↔ ∃ k ∈ t.baskets, k.joined h = b := List.mem_map
  have named : ∀ k ∈ t.baskets, h.basket = some k.number → k.state = .opened ∧ k.merchant = h.merchant := fun k hk hb => by
    obtain ⟨b, hbt, hbn, hbs⟩ := hj k.number hb
    obtain rfl := a.basket_ext hbt hk hbn
    exact hbs
  refine ⟨?_, ?_, fun b hb => ?_, fun b hb n => ?_, fun x hx n hn => ?_, fun x hx b hb hxb => ?_, a.lapseOnce, fun n => ?_,
    fun n => ?_⟩
  · simp only [HoldTable.addHold, List.map_append, List.map_cons, List.map_nil]
    refine List.nodup_append.mpr ⟨a.numbers, List.nodup_singleton _, fun x hx y hy => ?_⟩
    obtain rfl := List.mem_singleton.mp hy
    exact fun e => hf (e ▸ hx)
  · exact (baskets_numbers (fun b => (b.joined_same h).1) t.baskets).symm ▸ a.basketNumbers
  · obtain ⟨k, hk, rfl⟩ := memB.mp hb
    unfold Basket.joined
    split
    · refine List.nodup_append.mpr ⟨a.members k hk, List.nodup_singleton _, fun x hx y hy => ?_⟩
      obtain rfl := List.mem_singleton.mp hy
      obtain ⟨z, hz, hzn, -⟩ := (a.memberIff k hk x).mp hx
      exact hzn ▸ fresh z hz
    · exact a.members k hk
  · obtain ⟨k, hk, rfl⟩ := memB.mp hb
    rw [k.mem_joined, (k.joined_same h).1, a.memberIff k hk]
    constructor
    · rintro (⟨x, hx, hxn⟩ | hh)
      · exact ⟨x, mem.mpr (.inl hx), hxn⟩
      · exact ⟨h, mem.mpr (.inr rfl), hh⟩
    · rintro ⟨x, hx, hxn⟩
      rcases mem.mp hx with hx | rfl
      · exact .inl ⟨x, hx, hxn⟩
      · exact .inr hxn
  · have hb : ∃ b ∈ t.baskets, b.number = n := by
      rcases mem.mp hx with hx | rfl
      · exact a.joined x hx n hn
      · obtain ⟨b, hb, hbn, -⟩ := hj n hn
        exact ⟨b, hb, hbn⟩
    obtain ⟨b, hb, hbn⟩ := hb
    exact ⟨b.joined h, memB.mpr ⟨b, hb, rfl⟩, (b.joined_same h).1.trans hbn⟩
  · obtain ⟨k, hk, rfl⟩ := memB.mp hb
    obtain ⟨hnum, hst, hmer⟩ := k.joined_same h
    rw [hst, hmer]
    rcases mem.mp hx with hx | rfl
    · exact a.same x hx k hk (hnum ▸ hxb)
    · obtain ⟨hks, hkm⟩ := named k hk (hnum ▸ hxb)
      exact ⟨ho.trans hks.symm, hkm.symm⟩
  · refine (a.lapseHold n).trans ⟨?_, ?_⟩
    · rintro ⟨x, hx, hxn⟩
      exact ⟨x, mem.mpr (.inl hx), hxn⟩
    · rintro ⟨x, hx, hxn, hxs⟩
      rcases mem.mp hx with hx | rfl
      · exact ⟨x, hx, hxn, hxs⟩
      · rw [ho] at hxs
        cases hxs
  · have away : ∀ k ∈ t.baskets, k.state = .lapsing → k.joined h = k := fun k hk hks =>
      if_neg fun hb => by
        rw [(named k hk hb).1] at hks
        cases hks
    refine (a.lapseBasket n).trans ⟨?_, ?_⟩
    · rintro ⟨k, hk, hkn, hks, hkm⟩
      exact ⟨k, memB.mpr ⟨k, hk, away k hk hks⟩, hkn, hks, hkm⟩
    · rintro ⟨b, hb, hbn, hbs, hbm⟩
      obtain ⟨k, hk, rfl⟩ := memB.mp hb
      rw [(k.joined_same h).2.1] at hbs
      rw [away k hk hbs] at hbn hbm
      exact ⟨k, hk, hbn, hbs, hbm⟩

/-- A new OPEN basket with a number of its own. -/
theorem HoldTable.Agrees.addBasket (a : t.Agrees) {b : Basket} (serial : Nat) (hf : b.number ∉ t.baskets.map (·.number))
    (ho : b.state = .opened) (hm : b.members = []) :
    HoldTable.Agrees { t with baskets := t.baskets ++ [b], basketSerial := serial } := by
  have mem : ∀ {x : Basket}, x ∈ t.baskets ++ [b] ↔ x ∈ t.baskets ∨ x = b := by simp
  have unnamed : ∀ x ∈ t.holds, x.basket ≠ some b.number := fun x hx hxb => by
    obtain ⟨k, hk, hkn⟩ := a.joined x hx _ hxb
    exact hf (List.mem_map.mpr ⟨k, hk, hkn⟩)
  refine ⟨a.numbers, ?_, fun k hk => ?_, fun k hk n => ?_, fun x hx n hn => ?_, fun x hx k hk hxk => ?_, a.lapseOnce,
    a.lapseHold, fun n => (a.lapseBasket n).trans ⟨?_, ?_⟩⟩
  · simp only [List.map_append, List.map_cons, List.map_nil]
    refine List.nodup_append.mpr ⟨a.basketNumbers, List.nodup_singleton _, fun x hx y hy => ?_⟩
    obtain rfl := List.mem_singleton.mp hy
    exact fun e => hf (e ▸ hx)
  · rcases mem.mp hk with hk | rfl
    · exact a.members k hk
    · rw [hm]; exact List.nodup_nil
  · rcases mem.mp hk with hk | rfl
    · exact a.memberIff k hk n
    · rw [hm]
      exact iff_of_false List.not_mem_nil fun ⟨x, hx, _, hxb⟩ => unnamed x hx hxb
  · obtain ⟨k, hk, hkn⟩ := a.joined x hx n hn
    exact ⟨k, mem.mpr (.inl hk), hkn⟩
  · rcases mem.mp hk with hk | rfl
    · exact a.same x hx k hk hxk
    · exact absurd hxk (unnamed x hx)
  · rintro ⟨k, hk, hrest⟩
    exact ⟨k, mem.mpr (.inl hk), hrest⟩
  · rintro ⟨k, hk, hkn, hks, hkm⟩
    rcases mem.mp hk with hk | rfl
    · exact ⟨k, hk, hkn, hks, hkm⟩
    · rw [ho] at hks
      cases hks

/-! ### A minute tick (R66, R69, R80) -/

theorem Hold.tick_state (x : Hold) (lapsing : List Nat) :
    (x.tick lapsing).state = .lapsing ↔ x.state = .lapsing ∨ x.lapsesNext lapsing = true := by
  unfold Hold.tick
  cases hs : x.state with
  | opened => cases hl : x.lapsesNext lapsing <;> simp
  | lapsing => simp [hs]

theorem Basket.tick_state (b : Basket) : b.tick.state = .lapsing ↔ b.state = .lapsing ∨ b.lapsesNext = true := by
  unfold Basket.tick
  cases hs : b.state with
  | opened => cases hl : b.lapsesNext <;> simp
  | lapsing => simp [hs]

theorem Hold.opened_of_lapsesNext {x : Hold} {lapsing : List Nat} (hl : x.lapsesNext lapsing = true) : x.state = .opened := by
  unfold Hold.lapsesNext Hold.lapsesAlone at hl
  simp only [Bool.or_eq_true, Bool.and_eq_true, decide_eq_true_eq] at hl
  rcases hl with ⟨⟨hs, -⟩, -⟩ | ⟨hs, -⟩ <;> exact hs

theorem Basket.opened_of_lapsesNext {b : Basket} (hl : b.lapsesNext = true) : b.state = .opened := by
  unfold Basket.lapsesNext at hl
  simp only [Bool.and_eq_true, decide_eq_true_eq] at hl
  exact hl.1

/-- An OPEN member lapses when its basket does. -/
theorem HoldTable.Agrees.lapses_together (a : t.Agrees) (hh : h ∈ t.holds) {b : Basket} (hb : b ∈ t.baskets)
    (hj : h.basket = some b.number) : h.lapsesNext t.lapsingBaskets = true ↔ b.lapsesNext = true := by
  have listed : b.number ∈ t.lapsingBaskets ↔ b.lapsesNext = true := by
    unfold HoldTable.lapsingBaskets
    constructor
    · intro hm
      obtain ⟨k, hk, hkn⟩ := List.mem_map.mp hm
      obtain ⟨hk, hkl⟩ := List.mem_filter.mp hk
      rwa [← a.basket_ext hk hb hkn]
    · exact fun hl => List.mem_map.mpr ⟨b, List.mem_filter.mpr ⟨hb, hl⟩, rfl⟩
  have hs := (a.same h hh b hb hj).1
  rw [← listed]
  unfold Hold.lapsesNext Hold.lapsesAlone
  simp only [hj, Option.isNone_some, Bool.and_false, Bool.false_and, Bool.false_or, Bool.and_eq_true, decide_eq_true_eq,
    List.contains_iff_mem]
  exact and_iff_right_of_imp fun hm => hs.trans (Basket.opened_of_lapsesNext (listed.mp hm))

theorem HoldTable.Agrees.tick (a : t.Agrees) : t.tick.Agrees := by
  have memH : ∀ {x : Hold}, x ∈ t.tick.holds ↔ ∃ y ∈ t.holds, y.tick t.lapsingBaskets = x := List.mem_map
  have memB : ∀ {b : Basket}, b ∈ t.tick.baskets ↔ ∃ k ∈ t.baskets, k.tick = b := List.mem_map
  have newHold : ∀ n, LapseItem.hold n ∈ t.tick.lapse ↔
      LapseItem.hold n ∈ t.lapse ∨ ∃ x ∈ t.holds, x.number = n ∧ x.lapsesNext t.lapsingBaskets = true := fun n => by
    simp [HoldTable.tick, and_comm, and_left_comm]
  have newBasket : ∀ n, LapseItem.basket n ∈ t.tick.lapse ↔
      LapseItem.basket n ∈ t.lapse ∨ ∃ b ∈ t.baskets, b.number = n ∧ b.lapsesNext = true ∧ b.members = [] := fun n => by
    simp [HoldTable.tick, and_comm, and_left_comm]
  refine ⟨?_, ?_, fun b hb => ?_, fun b hb n => ?_, fun x hx n hn => ?_, fun x hx b hb hxb => ?_, ?_, fun n => ?_, fun n => ?_⟩
  · have : t.tick.holds.map (·.number) = t.holds.map (·.number) := by
      simp [HoldTable.tick, Function.comp_def]
    rw [this]
    exact a.numbers
  · exact (baskets_numbers Basket.tick_number t.baskets).symm ▸ a.basketNumbers
  · obtain ⟨k, hk, rfl⟩ := memB.mp hb
    simpa using a.members k hk
  · obtain ⟨k, hk, rfl⟩ := memB.mp hb
    rw [Basket.tick_members, Basket.tick_number, a.memberIff k hk]
    constructor
    · rintro ⟨x, hx, hxn, hxb⟩
      exact ⟨_, memH.mpr ⟨x, hx, rfl⟩, by simpa using hxn, by simpa using hxb⟩
    · rintro ⟨x, hx, hxn, hxb⟩
      obtain ⟨y, hy, rfl⟩ := memH.mp hx
      exact ⟨y, hy, by simpa using hxn, by simpa using hxb⟩
  · obtain ⟨y, hy, rfl⟩ := memH.mp hx
    obtain ⟨b, hb, hbn⟩ := a.joined y hy n (by simpa using hn)
    exact ⟨b.tick, memB.mpr ⟨b, hb, rfl⟩, by simpa using hbn⟩
  · obtain ⟨y, hy, rfl⟩ := memH.mp hx
    obtain ⟨k, hk, rfl⟩ := memB.mp hb
    have hj : y.basket = some k.number := by simpa using hxb
    obtain ⟨hs, hm⟩ := a.same y hy k hk hj
    refine ⟨?_, by simpa using hm⟩
    have hl : (y.tick t.lapsingBaskets).state = .lapsing ↔ k.tick.state = .lapsing := by
      rw [Hold.tick_state, Basket.tick_state, hs, a.lapses_together hy hk hj]
    cases h1 : (y.tick t.lapsingBaskets).state <;> cases h2 : k.tick.state <;> simp [h1, h2] at hl ⊢
  · have hold_old : ∀ x ∈ t.holds, x.lapsesNext t.lapsingBaskets = true → LapseItem.hold x.number ∉ t.lapse :=
      fun x hx hl hm => by
        obtain ⟨y, hy, hyn, hys⟩ := (a.lapseHold _).mp hm
        rw [hold_ext a.numbers hy hx hyn, Hold.opened_of_lapsesNext hl] at hys
        cases hys
    have basket_old : ∀ b ∈ t.baskets, b.lapsesNext = true → LapseItem.basket b.number ∉ t.lapse := fun b hb hl hm => by
      obtain ⟨k, hk, hkn, hks, -⟩ := (a.lapseBasket _).mp hm
      rw [a.basket_ext hk hb hkn, Basket.opened_of_lapsesNext hl] at hks
      cases hks
    have hholds : ((t.holds.filter (Hold.lapsesNext t.lapsingBaskets)).map (fun e => LapseItem.hold e.number)).Nodup := by
      have : ((t.holds.filter (Hold.lapsesNext t.lapsingBaskets)).map (·.number)).Nodup :=
        a.numbers.sublist (List.filter_sublist.map _)
      simpa [List.map_map, Function.comp_def] using this.map (f := LapseItem.hold) fun _ _ e => LapseItem.hold.inj e
    have hbaskets : ((t.baskets.filter (fun b => b.lapsesNext && b.members.isEmpty)).map
        (fun b => LapseItem.basket b.number)).Nodup := by
      have : ((t.baskets.filter (fun b => b.lapsesNext && b.members.isEmpty)).map (·.number)).Nodup :=
        a.basketNumbers.sublist (List.filter_sublist.map _)
      simpa [List.map_map, Function.comp_def] using this.map (f := LapseItem.basket) fun _ _ e => LapseItem.basket.inj e
    refine List.nodup_append.mpr ⟨List.nodup_append.mpr ⟨a.lapseOnce, hholds, fun x hx y hy e => ?_⟩, hbaskets,
      fun x hx y hy e => ?_⟩
    · obtain ⟨z, hz, rfl⟩ := List.mem_map.mp hy
      obtain ⟨hz, hzl⟩ := List.mem_filter.mp hz
      exact hold_old z hz hzl (e ▸ hx)
    · obtain ⟨z, hz, rfl⟩ := List.mem_map.mp hy
      obtain ⟨hz, hzl⟩ := List.mem_filter.mp hz
      rcases List.mem_append.mp (e ▸ hx) with hx | hx
      · exact basket_old z hz (Bool.and_eq_true _ _ ▸ hzl : _ ∧ _).1 hx
      · obtain ⟨w, -, hw⟩ := List.mem_map.mp hx
        cases hw
  · rw [newHold, a.lapseHold]
    constructor
    · rintro (⟨x, hx, hxn, hxs⟩ | ⟨x, hx, hxn, hxl⟩)
      · exact ⟨_, memH.mpr ⟨x, hx, rfl⟩, by simpa using hxn, (x.tick_state _).mpr (.inl hxs)⟩
      · exact ⟨_, memH.mpr ⟨x, hx, rfl⟩, by simpa using hxn, (x.tick_state _).mpr (.inr hxl)⟩
    · rintro ⟨x, hx, hxn, hxs⟩
      obtain ⟨y, hy, rfl⟩ := memH.mp hx
      have hyn : y.number = n := by simpa using hxn
      rcases (y.tick_state _).mp hxs with hs | hl
      · exact .inl ⟨y, hy, hyn, hs⟩
      · exact .inr ⟨y, hy, hyn, hl⟩
  · rw [newBasket, a.lapseBasket]
    constructor
    · rintro (⟨b, hb, hbn, hbs, hbm⟩ | ⟨b, hb, hbn, hbl, hbm⟩)
      · exact ⟨_, memB.mpr ⟨b, hb, rfl⟩, by simpa using hbn, b.tick_state.mpr (.inl hbs), by simpa using hbm⟩
      · exact ⟨_, memB.mpr ⟨b, hb, rfl⟩, by simpa using hbn, b.tick_state.mpr (.inr hbl), by simpa using hbm⟩
    · rintro ⟨b, hb, hbn, hbs, hbm⟩
      obtain ⟨k, hk, rfl⟩ := memB.mp hb
      have hkn : k.number = n := by simpa using hbn
      have hkm : k.members = [] := by simpa using hbm
      rcases k.tick_state.mp hbs with hs | hl
      · exact .inl ⟨k, hk, hkn, hs, hkm⟩
      · exact .inr ⟨k, hk, hkn, hl, hkm⟩

end

end Sys2Proof.Machine

namespace Sys2Proof.Machine

/-! ## Postings and card writes change different records -/

section
variable (s : State)

/-- The card table with other slots and another directory. -/
abbrev State.withTable (slots : Table Card) (directory : Table Nat) : State :=
  { s with cards := { s.cards with slots := slots, directory := directory } }

theorem State.raiseIf_withTable {u v : State} {slots : Table Card} {directory : Table Nat} (h : u = v.withTable slots directory)
    (b : Bool) (c : Condition) : u.raiseIf b c = (v.raiseIf b c).withTable slots directory := by
  subst h
  cases b <;> rfl

theorem State.post_withTable (p : Posting) (slots : Table Card) (directory : Table Nat) :
    (s.withTable slots directory).post p = (s.post p).withTable slots directory := by
  cases p
  case feePart i a =>
    by_cases hi : i = 0
    · simp [State.post, State.postFee, hi]
    · simp only [State.post, State.postFee, hi, if_false]
      exact State.raiseIf_withTable (by rfl) _ _
  case paidDown | promoDown => rfl
  case paidUp | promoUp => exact State.raiseIf_withTable (by rfl) _ _
  case sponsoredUp | sponsoredDown =>
    simp only [State.post, State.postSponsored]
    exact State.raiseIf_withTable (by rfl) _ _
  all_goals
    simp only [State.post, State.postField]
    exact State.raiseIf_withTable (by rfl) _ _

theorem State.postAll_withTable (ps : List Posting) (slots : Table Card) (directory : Table Nat) :
    (s.withTable slots directory).postAll ps = (s.postAll ps).withTable slots directory := by
  induction ps generalizing s with
  | nil => rfl
  | cons p ps ih => rw [State.postAll_cons, State.post_withTable, ih]; rfl

theorem State.putCard_postAll (slot : Nat) (c : Card) (ps : List Posting) :
    (s.putCard slot c).postAll ps = (s.postAll ps).putCard slot c := by
  have e : (s.postAll ps).putCard slot c = (s.postAll ps).withTable (tableInsert (s.postAll ps).cards.slots slot c)
    (s.postAll ps).cards.directory := rfl
  rw [e, State.postAll_slots, State.postAll_directory, ← State.postAll_withTable]
  rfl

theorem State.insertCard_postAll (slot : Nat) (c : Card) (ps : List Posting) :
    (s.insertCard slot c).postAll ps = (s.postAll ps).insertCard slot c := by
  have e : (s.postAll ps).insertCard slot c = (s.postAll ps).withTable (tableInsert (s.postAll ps).cards.slots slot c)
    (tableInsert (s.postAll ps).cards.directory c.number slot) := rfl
  rw [e, State.postAll_slots, State.postAll_directory, ← State.postAll_withTable]
  rfl

end

/-! ## The books in every store state -/

/-- A merchant's record stands. -/
abbrev State.Listed (s : State) (i : Nat) : Prop := (s.merchant i).state ≠ .unlisted

/-- What stands of cards and merchants in every store state (the first, second and fifth laws of the device). -/
structure State.Stock (s : State) : Prop where
  lots : ∀ e ∈ s.cards.slots, LotsFormed e.2.lots
  keys : ∀ e ∈ s.cards.slots, KeysFormed e.2.lots
  value : ∀ e ∈ s.cards.slots, lotsValue e.2.lots ≤ 1000000
  numbers : s.NumbersOnce
  operator : (s.merchant 0).state = .active
  sponsors : ∀ i, valueWhere (Account.sponsor i).keys s.allLots ≠ 0 → s.Listed i
  positions : ∀ i, (s.merchant i).position ≠ Position.zero → s.Listed i

section
variable {s t : State} {slot : Nat} {c d : Card}

theorem valueWhere_expire_le (p : LotKey → Bool) (today : Option Nat) (lots : List Lot) :
    valueWhere p (expireLots today lots) ≤ valueWhere p lots := by
  have := valueWhere_expire p today lots
  omega

theorem lotsValue_expire_le (today : Option Nat) (lots : List Lot) : lotsValue (expireLots today lots) ≤ lotsValue lots := by
  rw [lotsValue_eq, lotsValue_eq]
  exact valueWhere_expire_le _ today lots

/-- A card's value is within that of all cards. -/
theorem State.valueWhere_card_le (p : LotKey → Bool) (hc : s.cardAt slot = some c) :
    valueWhere p c.lots ≤ valueWhere p s.allLots := by
  have := State.retireCard_value p hc c.number
  omega

theorem State.Stock.cardLots (h : s.Stock) (hc : s.cardAt slot = some c) : LotsFormed c.lots := h.lots _ (mem_of_tableFind hc)
theorem State.Stock.cardKeys (h : s.Stock) (hc : s.cardAt slot = some c) : KeysFormed c.lots := h.keys _ (mem_of_tableFind hc)
theorem State.Stock.cardValue (h : s.Stock) (hc : s.cardAt slot = some c) : lotsValue c.lots ≤ 1000000 :=
  h.value _ (mem_of_tableFind hc)

theorem State.Stock.operatorListed (h : s.Stock) : s.Listed 0 := by
  unfold State.Listed
  rw [h.operator]
  nofun

/-- Cards and merchants' states, and positions that stand, alone count. -/
theorem State.Stock.congr (h : s.Stock) (hs : t.cards.slots = s.cards.slots)
    (hm : ∀ i, (t.merchant i).state = (s.merchant i).state)
    (hp : ∀ i, (t.merchant i).position ≠ Position.zero → (s.merchant i).position ≠ Position.zero ∨ s.Listed i) : t.Stock := by
  have hlots : t.allLots = s.allLots := by unfold State.allLots; rw [hs]
  have hat : ∀ j, t.cardAt j = s.cardAt j := fun j => by unfold State.cardAt; rw [hs]
  have listed : ∀ {i}, s.Listed i → t.Listed i := fun {i} hl => by unfold State.Listed; rw [hm]; exact hl
  refine ⟨hs ▸ h.lots, hs ▸ h.keys, hs ▸ h.value, fun i j c d hi hj => ?_, (hm 0).trans h.operator, fun i hi => ?_, fun i hi => ?_⟩
  · rw [hat] at hi hj
    exact h.numbers i j c d hi hj
  · rw [hlots] at hi
    exact listed (h.sponsors i hi)
  · exact listed ((hp i hi).elim (h.positions i) id)

/-- A merchant that no posting names keeps its position. -/
theorem State.postAll_position {ps : List Posting} {i : Nat} (h : ∀ p ∈ ps, p.target ≠ some i) :
    ((s.postAll ps).merchant i).position = (s.merchant i).position := by
  induction ps generalizing s with
  | nil => rfl
  | cons p ps ih =>
    rw [State.postAll_cons, ih fun q hq => h q (List.mem_cons_of_mem p hq), s.post_merchant_ne (h p List.mem_cons_self)]

theorem State.Stock.postAll (h : s.Stock) (hw : tableWfD Merchant.unlisted s.merchants) {ps : List Posting}
    (hp : TargetsIn s.Listed ps) : (s.postAll ps).Stock := by
  refine h.congr (s.postAll_slots ps) (fun i => ((s.postAll_kept ps hw).2 i).2) fun i hi => ?_
  by_cases ht : ∃ p ∈ ps, p.target = some i
  · obtain ⟨p, hps, hpt⟩ := ht
    exact .inr (hp p hps i hpt)
  · push Not at ht
    rw [State.postAll_position ht] at hi
    exact .inl hi

theorem forall_tableInsert {α : Type} {P : Nat × α → Prop} {t : Table α} {i : Nat} {v : α} (hv : P (i, v)) (h : ∀ e ∈ t, P e) :
    ∀ e ∈ tableInsert t i v, P e := fun e he => (mem_tableInsert he).elim (fun e => e ▸ hv) (h e)

/-- A card under a number that no card carries leaves every number on one card. -/
theorem State.NumbersOnce.putFresh (h : s.NumbersOnce) (hn : ∀ j x, s.cardAt j = some x → x.number ≠ d.number) :
    (s.putCard slot d).NumbersOnce := by
  have cases : ∀ {i x}, (s.putCard slot d).cardAt i = some x → i = slot ∧ x = d ∨ s.cardAt i = some x := fun {i x} hi => by
    rw [State.putCard_cardAt] at hi
    split at hi
    · next e => exact .inl ⟨e, (Option.some.inj hi).symm⟩
    · exact .inr hi
  intro i j x y hi hj e
  rcases cases hi with ⟨hi, hx⟩ | hi <;> rcases cases hj with ⟨hj, hy⟩ | hj
  · exact hi.trans hj.symm
  · exact absurd (e.symm.trans (congrArg Card.number hx)) (hn j y hj)
  · exact absurd (e.trans (congrArg Card.number hy)) (hn i x hi)
  · exact h i j x y hi hj e

/-- A card written in place of another of its number. -/
theorem State.Stock.putCard (h : s.Stock) (hw : tableWf s.cards.slots) (hc : s.cardAt slot = some c)
    (hn : d.number = c.number) (hl : LotsFormed d.lots) (hk : KeysFormed d.lots) (hv : lotsValue d.lots ≤ 1000000)
    (hs : ∀ i, valueWhere (Account.sponsor i).keys d.lots ≠ 0 → valueWhere (Account.sponsor i).keys c.lots ≠ 0 ∨ s.Listed i) :
    (s.putCard slot d).Stock := by
  have number : ∀ {i x}, (s.putCard slot d).cardAt i = some x → ∃ y, s.cardAt i = some y ∧ y.number = x.number :=
    fun {i x} hi => by
      rw [State.putCard_cardAt] at hi
      split at hi
      · next e =>
        obtain rfl := Option.some.inj hi
        exact ⟨c, e ▸ hc, hn.symm⟩
      · exact ⟨x, hi, rfl⟩
  refine ⟨forall_tableInsert hl h.lots, forall_tableInsert hk h.keys, forall_tableInsert hv h.value,
    fun i j x y hi hj e => ?_, h.operator, fun i hi => ?_, h.positions⟩
  · obtain ⟨x', hx', hxn⟩ := number hi
    obtain ⟨y', hy', hyn⟩ := number hj
    exact h.numbers i j x' y' hx' hy' (hxn.trans (e.trans hyn.symm))
  · have hval := State.putCard_value hw (Account.sponsor i).keys hc d
    have hle := State.valueWhere_card_le (Account.sponsor i).keys hc
    by_cases hd : valueWhere (Account.sponsor i).keys d.lots = 0
    · exact h.sponsors i (by omega)
    · rcases hs i hd with hs | hs
      · exact h.sponsors i (by omega)
      · exact hs

/-- A card retired. -/
theorem State.Stock.retireCard (h : s.Stock) (hw : tableWf s.cards.slots) (hc : s.cardAt slot = some c) (n : Nat) :
    (s.retireCard slot n).Stock := by
  have old : ∀ {i x}, (s.retireCard slot n).cardAt i = some x → s.cardAt i = some x := fun {i x} hi => by
    rw [State.retireCard_cardAt hw] at hi
    split at hi
    · cases hi
    · exact hi
  refine ⟨fun e he => h.lots e (mem_tableErase he), fun e he => h.keys e (mem_tableErase he),
    fun e he => h.value e (mem_tableErase he), fun i j x y hi hj => h.numbers i j x y (old hi) (old hj), h.operator,
    fun i hi => h.sponsors i ?_, h.positions⟩
  have := State.retireCard_value (Account.sponsor i).keys hc n
  omega

theorem State.Stock.closingCheck (h : s.Stock) (hw : tableWf s.cards.slots) (hc : s.cardAt slot = some c)
    (hn : d.number = c.number) (hl : LotsFormed d.lots) (hk : KeysFormed d.lots) (hv : lotsValue d.lots ≤ 1000000)
    (hs : ∀ i, valueWhere (Account.sponsor i).keys d.lots ≠ 0 → valueWhere (Account.sponsor i).keys c.lots ≠ 0 ∨ s.Listed i) :
    (s.closingCheck slot d).Stock := by
  unfold State.closingCheck
  split
  · split
    · exact h.retireCard hw hc _
    · exact h.putCard hw hc hn hl hk hv hs
  · exact h.putCard hw hc hn hl hk hv hs

/-- A card with a number of its own in a free slot. -/
theorem State.Stock.insertCard (h : s.Stock) (hw : tableWf s.cards.slots) (hc : s.cardAt slot = none)
    (hn : ∀ j x, s.cardAt j = some x → x.number ≠ d.number) (hl : LotsFormed d.lots) (hk : KeysFormed d.lots)
    (hv : lotsValue d.lots ≤ 1000000) (hs : ∀ i, valueWhere (Account.sponsor i).keys d.lots ≠ 0 → s.Listed i) :
    (s.insertCard slot d).Stock := by
  refine ⟨forall_tableInsert hl h.lots, forall_tableInsert hk h.keys, forall_tableInsert hv h.value,
    h.numbers.putFresh hn, h.operator, fun i hi => ?_, h.positions⟩
  · have hval : valueWhere (Account.sponsor i).keys (s.insertCard slot d).allLots =
        valueWhere (Account.sponsor i).keys s.allLots + valueWhere (Account.sponsor i).keys d.lots := by
      rw [State.allLots_value, State.allLots_value]
      exact tableSum_insert_new (fun c : Card => valueWhere (Account.sponsor i).keys c.lots) hw d hc
    by_cases hd : valueWhere (Account.sponsor i).keys d.lots = 0
    · exact h.sponsors i (by omega)
    · exact hs i hd

/-- A card under another number. -/
theorem State.Stock.renameCard (h : s.Stock) (hw : tableWf s.cards.slots) (hc : s.cardAt slot = some c) (o : Nat)
    (hn : ∀ j x, s.cardAt j = some x → x.number ≠ d.number) (hl : LotsFormed d.lots) (hk : KeysFormed d.lots)
    (hv : lotsValue d.lots ≤ 1000000)
    (hs : ∀ i, valueWhere (Account.sponsor i).keys d.lots ≠ 0 → valueWhere (Account.sponsor i).keys c.lots ≠ 0) :
    (s.renameCard slot o d).Stock := by
  have hput : (s.putCard slot { d with number := c.number }).Stock := h.putCard hw hc rfl hl hk hv fun i hi => .inl (hs i hi)
  refine ⟨forall_tableInsert hl h.lots, forall_tableInsert hk h.keys, forall_tableInsert hv h.value,
    h.numbers.putFresh hn, h.operator, fun i hi => ?_, h.positions⟩
  · refine hput.sponsors i ?_
    have h1 := State.putCard_value hw (Account.sponsor i).keys hc d
    have h2 := State.putCard_value hw (Account.sponsor i).keys hc { d with number := c.number }
    have h3 : valueWhere (Account.sponsor i).keys (s.renameCard slot o d).allLots =
        valueWhere (Account.sponsor i).keys (s.putCard slot d).allLots := rfl
    dsimp only at h2
    omega

/-! ## The books while the store is READY -/

/-- The directory names each card, and every account stands at its lots' sum (the first, second and third laws of the device). -/
structure State.Balanced (s : State) : Prop where
  named : ∀ n slot, tableFind s.cards.directory n = some slot ↔ ∃ c, s.cardAt slot = some c ∧ c.number = n
  total : ∀ acc, s.total acc = valueWhere acc.keys s.allLots

theorem State.Balanced.congr (h : s.Balanced) (hs : t.cards = s.cards)
    (hm : ∀ i, (t.merchant i).sponsored = (s.merchant i).sponsored) : t.Balanced := by
  have hlots : t.allLots = s.allLots := by unfold State.allLots; rw [hs]
  refine ⟨fun n slot => ?_, fun acc => ?_⟩
  · unfold State.cardAt
    rw [hs]
    exact h.named n slot
  · rw [hlots, ← h.total acc]
    cases acc with
    | paid => exact congrArg CardTable.paidOutstanding hs
    | promo => exact congrArg CardTable.promoOutstanding hs
    | sponsor i => exact hm i

/-- No account comes near its maximum (R105). -/
theorem State.Balanced.below (h : s.Balanced) (k : s.Stock) (hw : s.TablesFormed) (acc : Account) :
    s.total acc ≤ 131072000000 := (h.total acc).symm ▸ State.allLots_below hw k.value acc.keys

/-- Postings that take, from accounts, what a card loses. -/
theorem State.Balanced.taken (h : s.Balanced) (k : s.Stock) (hw : s.TablesFormed) (hc : s.cardAt slot = some c)
    {ps : List Posting} (hn : ∀ acc : Account, acc.NoUps ps) {lots : List Lot}
    (hd : ∀ acc : Account, valueWhere acc.keys lots + acc.downs ps = valueWhere acc.keys c.lots) (acc : Account) :
    (s.postAll ps).total acc + valueWhere acc.keys c.lots = s.total acc + valueWhere acc.keys lots := by
  have hb := h.below k hw acc
  have ht := State.total_postAll_downs hw.merchants (hn acc) (Nat.lt_of_le_of_lt hb (by decide))
  have hle := State.valueWhere_card_le acc.keys hc
  have := h.total acc
  have := hd acc
  omega

/-- A card written in place of another of its number, the accounts moved by what it gains or loses. -/
theorem State.Balanced.putCard (h : s.Balanced) (hw : tableWf s.cards.slots) (hc : s.cardAt slot = some c)
    (hn : d.number = c.number) {ps : List Posting}
    (ht : ∀ acc, (s.postAll ps).total acc + valueWhere acc.keys c.lots = s.total acc + valueWhere acc.keys d.lots) :
    ((s.postAll ps).putCard slot d).Balanced := by
  have hat : ∀ j, ((s.postAll ps).putCard slot d).cardAt j = if j = slot then some d else s.cardAt j := fun j => by
    rw [State.putCard_cardAt, State.postAll_cardAt]
  refine ⟨fun n j => ?_, fun acc => ?_⟩
  · have hd : ((s.postAll ps).putCard slot d).cards.directory = s.cards.directory := s.postAll_directory ps
    rw [hd, h.named n j, hat]
    split
    · next e =>
      subst e
      rw [hc]
      exact ⟨fun ⟨x, hx, hxn⟩ => ⟨d, rfl, by rw [hn, Option.some.inj hx]; exact hxn⟩,
        fun ⟨x, hx, hxn⟩ => ⟨c, rfl, by rw [← hn, Option.some.inj hx]; exact hxn⟩⟩
    · rfl
  · have hslots := s.postAll_slots ps
    have hv := State.putCard_value (s := s.postAll ps) (hslots.symm ▸ hw) acc.keys ((s.postAll_cardAt ps slot).trans hc) d
    have hl : (s.postAll ps).allLots = s.allLots := by unfold State.allLots; rw [hslots]
    rw [hl] at hv
    have hsame : ((s.postAll ps).putCard slot d).total acc = (s.postAll ps).total acc := by cases acc <;> rfl
    have := ht acc
    have := h.total acc
    omega

/-- A card retired, its value posted away. -/
theorem State.Balanced.retireCard (h : s.Balanced) (hw : s.TablesFormed) (hc : s.cardAt slot = some c) {n : Nat}
    (hn : n = c.number) {ps : List Posting} (ht : ∀ acc, (s.postAll ps).total acc + valueWhere acc.keys c.lots = s.total acc) :
    ((s.postAll ps).retireCard slot n).Balanced := by
  subst hn
  have hslots := s.postAll_slots ps
  have hat : ∀ j, ((s.postAll ps).retireCard slot c.number).cardAt j = if j = slot then none else s.cardAt j := fun j => by
    rw [State.retireCard_cardAt (hslots.symm ▸ hw.slots), State.postAll_cardAt]
  have here : ∀ j, tableFind s.cards.directory c.number = some j → j = slot := fun j hj => by
    have := (h.named c.number slot).mpr ⟨c, hc, rfl⟩
    rw [hj] at this
    exact Option.some.inj this
  refine ⟨fun m j => ?_, fun acc => ?_⟩
  · have hd : ((s.postAll ps).retireCard slot c.number).cards.directory = tableErase s.cards.directory c.number :=
      congrArg (tableErase · c.number) (s.postAll_directory ps)
    rw [hd, hat]
    by_cases em : m = c.number
    · subst em
      rw [tableFind_erase_self _ _ hw.directory]
      refine iff_of_false nofun ?_
      rintro ⟨x, hx, hxn⟩
      split at hx
      · cases hx
      · next e => exact e (here j ((h.named c.number j).mpr ⟨x, hx, hxn⟩))
    · rw [tableFind_erase_ne _ em, h.named m j]
      split
      · next e =>
        subst e
        rw [hc]
        refine iff_of_false ?_ (by simp)
        rintro ⟨x, hx, hxn⟩
        exact em (by rw [Option.some.inj hx]; exact hxn.symm)
      · rfl
  · have hv := State.retireCard_value (s := s.postAll ps) acc.keys ((s.postAll_cardAt ps slot).trans hc) c.number
    have hl : (s.postAll ps).allLots = s.allLots := by unfold State.allLots; rw [hslots]
    rw [hl] at hv
    have hsame : ((s.postAll ps).retireCard slot c.number).total acc = (s.postAll ps).total acc := by cases acc <;> rfl
    have := ht acc
    have := h.total acc
    omega

/-- The closing check, the accounts moved by what the card gains or loses. -/
theorem State.Balanced.closingCheck (h : s.Balanced) (hw : s.TablesFormed) (hc : s.cardAt slot = some c)
    (hn : d.number = c.number) {ps : List Posting}
    (ht : ∀ acc, (s.postAll ps).total acc + valueWhere acc.keys c.lots = s.total acc + valueWhere acc.keys d.lots) :
    ((s.postAll ps).closingCheck slot d).Balanced := by
  unfold State.closingCheck
  split
  · split
    · next h0 =>
      refine h.retireCard hw hc hn fun acc => ?_
      have hz : valueWhere acc.keys d.lots = 0 := Nat.le_zero.mp (h0 ▸ valueWhere_le acc.keys d.lots)
      have := ht acc
      omega
    · exact h.putCard (d := { d with state := .active }) hw.slots hc hn ht
  · exact h.putCard hw.slots hc hn ht

/-- A new card under a new number in a free slot, its value posted. -/
theorem State.Balanced.insertCard (h : s.Balanced) (hw : tableWf s.cards.slots) (hc : s.cardAt slot = none)
    (hn : tableFind s.cards.directory d.number = none) {ps : List Posting}
    (ht : ∀ acc, (s.postAll ps).total acc = s.total acc + valueWhere acc.keys d.lots) :
    ((s.postAll ps).insertCard slot d).Balanced := by
  have hslots := s.postAll_slots ps
  have hat : ∀ j, ((s.postAll ps).insertCard slot d).cardAt j = if j = slot then some d else s.cardAt j := fun j => by
    have := (s.postAll ps).putCard_cardAt slot j d
    rw [State.postAll_cardAt] at this
    exact this
  refine ⟨fun m j => ?_, fun acc => ?_⟩
  · have hd : ((s.postAll ps).insertCard slot d).cards.directory = tableInsert s.cards.directory d.number slot :=
      congrArg (tableInsert · d.number slot) (s.postAll_directory ps)
    rw [hd, hat]
    by_cases em : m = d.number
    · subst em
      rw [tableFind_insert_self]
      split
      · next e => exact ⟨fun _ => ⟨d, rfl, rfl⟩, fun _ => congrArg some e.symm⟩
      · next e =>
        refine iff_of_false (fun hf => e (Option.some.inj hf).symm) fun hx => ?_
        have := (h.named _ j).mpr hx
        rw [hn] at this
        cases this
    · rw [tableFind_insert_ne _ _ em, h.named m j]
      split
      · next e =>
        subst e
        rw [hc]
        refine iff_of_false (by simp) ?_
        rintro ⟨x, hx, hxn⟩
        exact em (by rw [Option.some.inj hx]; exact hxn.symm)
      · rfl
  · have hv : valueWhere acc.keys ((s.postAll ps).insertCard slot d).allLots =
        valueWhere acc.keys s.allLots + valueWhere acc.keys d.lots := by
      have hl : valueWhere acc.keys s.allLots = valueWhere acc.keys (s.postAll ps).allLots := by unfold State.allLots; rw [hslots]
      rw [hl, State.allLots_value, State.allLots_value]
      exact tableSum_insert_new (fun c : Card => valueWhere acc.keys c.lots) (hslots.symm ▸ hw) d
        ((s.postAll_cardAt ps slot).trans hc)
    have hsame : ((s.postAll ps).insertCard slot d).total acc = (s.postAll ps).total acc := by cases acc <;> rfl
    have := ht acc
    have := h.total acc
    omega

/-- A card under a new number. -/
theorem State.Balanced.renameCard (h : s.Balanced) (hw : s.TablesFormed) (hc : s.cardAt slot = some c) {o : Nat}
    (ho : o = c.number) (hn : tableFind s.cards.directory d.number = none) {ps : List Posting}
    (ht : ∀ acc, (s.postAll ps).total acc + valueWhere acc.keys c.lots = s.total acc + valueWhere acc.keys d.lots) :
    ((s.postAll ps).renameCard slot o d).Balanced := by
  subst ho
  have hat : ∀ j, ((s.postAll ps).renameCard slot c.number d).cardAt j = if j = slot then some d else s.cardAt j := fun j => by
    have := (s.postAll ps).putCard_cardAt slot j d
    rw [State.postAll_cardAt] at this
    exact this
  have here : ∀ {m}, m ≠ c.number → tableFind s.cards.directory m ≠ some slot := fun hm hf => by
    obtain ⟨x, hx, hxn⟩ := (h.named _ _).mp hf
    rw [hc] at hx
    exact hm (by rw [Option.some.inj hx]; exact hxn.symm)
  have hput := (h.putCard hw.slots hc (d := { d with number := c.number }) rfl ht).total
  refine ⟨fun m j => ?_, fun acc => ?_⟩
  · have hd : ((s.postAll ps).renameCard slot c.number d).cards.directory =
        tableInsert (tableErase s.cards.directory c.number) d.number slot :=
      congrArg (fun t => tableInsert (tableErase t c.number) d.number slot) (s.postAll_directory ps)
    rw [hd, hat]
    by_cases em : m = d.number
    · subst em
      rw [tableFind_insert_self]
      split
      · next e => exact ⟨fun _ => ⟨d, rfl, rfl⟩, fun _ => congrArg some e.symm⟩
      · next e =>
        refine iff_of_false (fun hf => e (Option.some.inj hf).symm) fun hx => ?_
        have := (h.named _ j).mpr hx
        rw [hn] at this
        cases this
    · rw [tableFind_insert_ne _ _ em]
      split
      · next e =>
        subst e
        refine iff_of_false ?_ fun ⟨x, hx, hxn⟩ => em (by rw [Option.some.inj hx]; exact hxn.symm)
        by_cases ec : m = c.number
        · subst ec
          rw [tableFind_erase_self _ _ hw.directory]
          nofun
        · rw [tableFind_erase_ne _ ec]
          exact here ec
      · next e =>
        by_cases ec : m = c.number
        · subst ec
          rw [tableFind_erase_self _ _ hw.directory]
          refine iff_of_false nofun fun hx => e ?_
          have h1 := (h.named _ j).mpr hx
          rw [(h.named _ slot).mpr ⟨c, hc, rfl⟩] at h1
          exact (Option.some.inj h1).symm
        · rw [tableFind_erase_ne _ ec, h.named m j]
  · have h1 := hput acc
    have h2 : ((s.postAll ps).renameCard slot c.number d).total acc =
        ((s.postAll ps).putCard slot { d with number := c.number }).total acc := by cases acc <;> rfl
    have hsl : ((s.postAll ps).cardAt slot) = some c := (s.postAll_cardAt ps slot).trans hc
    have hwp : tableWf (s.postAll ps).cards.slots := (s.postAll_slots ps).symm ▸ hw.slots
    have h3 := State.putCard_value hwp acc.keys hsl d
    have h4 := State.putCard_value hwp acc.keys hsl { d with number := c.number }
    have h5 : valueWhere acc.keys ((s.postAll ps).renameCard slot c.number d).allLots =
        valueWhere acc.keys ((s.postAll ps).putCard slot d).allLots := rfl
    dsimp only at h4
    omega

end

end Sys2Proof.Machine

namespace Sys2Proof.Machine

/-! ## Cards, merchants and the Hold Table together while the store is READY -/

/-- A card's lots hold what these holds reserve, and its open-hold count counts them (R10). -/
def Card.Carries (c : Card) (holds : List Hold) : Prop :=
  (∀ key, heldUnder key c.lots = reservedBy key holds) ∧ c.openHolds = holds.length

theorem Card.Carries.same {c d : Card} {holds : List Hold} (h : c.Carries holds)
    (hl : ∀ key, heldUnder key d.lots = heldUnder key c.lots) (hn : d.openHolds = c.openHolds) : d.Carries holds :=
  ⟨fun key => (hl key).trans (h.1 key), hn.trans h.2⟩

theorem Card.Carries.none_held {c : Card} {holds : List Hold} (h : c.Carries holds) (hn : c.openHolds = 0) : holds = [] :=
  List.length_eq_zero_iff.mp (h.2.symm.trans hn)

/-- Each hold stands on a card that carries it, at a merchant that counts it (the fourth and fifth laws of the device). -/
structure State.Reserved (s : State) : Prop where
  cards : ∀ slot c, s.cardAt slot = some c → c.Carries (s.holdsOf slot)
  countAt : ∀ i, (s.merchant i).openHolds = (s.hold.atMerchant i).length
  present : ∀ h ∈ s.hold.holds, ∃ c, s.cardAt h.slot = some c
  amount : ∀ h ∈ s.hold.holds, h.amount = (h.parts.map (·.cents)).sum ∧ 0 < h.amount
  listedAt : ∀ h ∈ s.hold.holds, s.Listed h.merchant

theorem State.mem_holdsOf {s : State} {slot : Nat} {h : Hold} : h ∈ s.holdsOf slot ↔ h ∈ s.hold.holds ∧ h.slot = slot := by
  simp [State.holdsOf]

theorem HoldTable.mem_atMerchant {t : HoldTable} {i : Nat} {h : Hold} : h ∈ t.atMerchant i ↔ h ∈ t.holds ∧ h.merchant = i := by
  simp [HoldTable.atMerchant]

section
variable {s t : State} {slot : Nat} {c : Card} {e : Hold}

theorem State.Reserved.none_at (h : s.Reserved) (hc : s.cardAt slot = none) : s.holdsOf slot = [] := by
  refine List.eq_nil_iff_forall_not_mem.mpr fun e he => ?_
  obtain ⟨hmem, rfl⟩ := State.mem_holdsOf.mp he
  obtain ⟨c, hcard⟩ := h.present e hmem
  rw [hc] at hcard
  cases hcard

/-- A merchant at which a hold was placed counts it. -/
theorem State.Reserved.counted (h : s.Reserved) (he : e ∈ s.hold.holds) : (s.merchant e.merchant).openHolds ≠ 0 := by
  rw [h.countAt]
  exact List.length_pos_iff.mpr (List.ne_nil_of_mem (HoldTable.mem_atMerchant.mpr ⟨he, rfl⟩)) |>.ne'

/-- One slot's card and holds change. -/
theorem State.Reserved.update (h : s.Reserved) {x : Option Card}
    (hcard : ∀ j, t.cardAt j = if j = slot then x else s.cardAt j)
    (hother : ∀ j, j ≠ slot → t.holdsOf j = s.holdsOf j)
    (hx : ∀ d, x = some d → d.Carries (t.holdsOf slot)) (hnone : x = none → t.holdsOf slot = [])
    (hcount : ∀ i, (t.merchant i).openHolds = (t.hold.atMerchant i).length)
    (hnew : ∀ k ∈ t.hold.holds, k ∈ s.hold.holds ∨
      (k.amount = (k.parts.map (·.cents)).sum ∧ 0 < k.amount) ∧ s.Listed k.merchant)
    (hlisted : ∀ i, s.Listed i → t.Listed i) : t.Reserved := by
  refine ⟨fun j d hd => ?_, hcount, fun k hk => ?_, fun k hk => (hnew k hk).elim (h.amount k) And.left,
    fun k hk => hlisted _ ((hnew k hk).elim (h.listedAt k) And.right)⟩
  · rw [hcard] at hd
    split at hd
    · next hj => exact hj ▸ hx d hd
    · next hj => rw [hother j hj]; exact h.cards j d hd
  · rw [hcard]
    split
    · next hj =>
      cases hxs : x with
      | some d => exact ⟨d, rfl⟩
      | none =>
        have hm := State.mem_holdsOf.mpr ⟨hk, hj⟩
        rw [hnone hxs] at hm
        cases hm
    · next hj =>
      have hm : k ∈ s.holdsOf k.slot := hother _ hj ▸ State.mem_holdsOf.mpr ⟨hk, rfl⟩
      exact h.present k (State.mem_holdsOf.mp hm).1

/-- One slot's card changes; the holds stand. -/
theorem State.Reserved.setCard (h : s.Reserved) {x : Option Card} (hh : t.hold.holds = s.hold.holds)
    (hcard : ∀ j, t.cardAt j = if j = slot then x else s.cardAt j)
    (hx : ∀ d, x = some d → d.Carries (s.holdsOf slot)) (hnone : x = none → s.holdsOf slot = [])
    (hm : ∀ i, (t.merchant i).openHolds = (s.merchant i).openHolds ∧ (t.merchant i).state = (s.merchant i).state) :
    t.Reserved := by
  have hof : ∀ j, t.holdsOf j = s.holdsOf j := fun j => by unfold State.holdsOf; rw [hh]
  refine h.update hcard (fun j _ => hof j) (fun d hd => hof slot ▸ hx d hd) (fun hn => hof slot ▸ hnone hn) (fun i => ?_)
    (fun k hk => .inl (hh ▸ hk)) fun i hi => ?_
  · rw [(hm i).1, h.countAt, HoldTable.atMerchant, HoldTable.atMerchant, hh]
  · unfold State.Listed
    rw [(hm i).2]
    exact hi

/-- Cards, the holds, and the merchants' counts and listing alone count. -/
theorem State.Reserved.congr (h : s.Reserved) (hh : t.hold.holds = s.hold.holds) (hc : ∀ j, t.cardAt j = s.cardAt j)
    (hm : ∀ i, (t.merchant i).openHolds = (s.merchant i).openHolds)
    (hl : ∀ i, (s.merchant i).openHolds ≠ 0 → s.Listed i → t.Listed i) : t.Reserved := by
  have hof : ∀ j, t.holdsOf j = s.holdsOf j := fun j => by unfold State.holdsOf; rw [hh]
  refine ⟨fun j d hd => hof j ▸ h.cards j d (hc j ▸ hd), fun i => ?_, fun k hk => ?_, fun k hk => h.amount k (hh ▸ hk),
    fun k hk => ?_⟩
  · rw [hm i, h.countAt, HoldTable.atMerchant, HoldTable.atMerchant, hh]
  · rw [hc]
    exact h.present k (hh ▸ hk)
  · exact hl _ (h.counted (hh ▸ hk)) (h.listedAt k (hh ▸ hk))

/-- Postings leave the counts, and what is listed. -/
theorem State.Reserved.postAll (h : s.Reserved) (hw : tableWfD Merchant.unlisted s.merchants) (ps : List Posting) :
    (s.postAll ps).Reserved := by
  have hm := (s.postAll_kept ps hw).2
  refine h.congr (by rw [State.postAll_hold]) (s.postAll_cardAt ps) (fun i => (hm i).1) fun i _ hi => ?_
  unfold State.Listed
  rw [(hm i).2]
  exact hi

/-! ### The end of a hold -/

/-- Holds with one taken out of them by its number. -/
theorem holds_perm {holds : List Hold} (hn : (holds.map (·.number)).Nodup) (he : e ∈ holds) :
    holds.Perm (e :: holds.filter (fun k => k.number ≠ e.number)) := by
  have herase : holds.filter (fun k => k.number ≠ e.number) = holds.erase e := by
    rw [(List.Nodup.of_map _ hn).erase_eq_filter]
    refine List.filter_congr fun k hk => ?_
    by_cases hke : k = e
    · simp [hke]
    · have : k.number ≠ e.number := fun h => hke (List.inj_on_of_nodup_map hn hk he h)
      simp [hke, this]
  rw [herase]
  exact List.perm_cons_erase he

/-- Of the holds that satisfy `p`, those that stand once one is freed. -/
theorem holds_filter_perm {holds : List Hold} (hn : (holds.map (·.number)).Nodup) (he : e ∈ holds) (p : Hold → Bool) :
    (holds.filter p).Perm (if p e then e :: (holds.filter (fun k => k.number ≠ e.number)).filter p
      else (holds.filter (fun k => k.number ≠ e.number)).filter p) := by
  have h := (holds_perm hn he).filter p
  rwa [List.filter_cons] at h

theorem State.endHold_holds (s : State) (e : Hold) (taken : Nat) :
    (s.endHold e taken).hold.holds = s.hold.holds.filter (fun k => k.number ≠ e.number) := by
  rw [State.endHold_hold]
  rfl

theorem State.endHold_holdsOf (hn : (s.hold.holds.map (·.number)).Nodup) (he : e ∈ s.hold.holds) (taken : Nat) :
    (s.holdsOf e.slot).Perm (e :: (s.endHold e taken).holdsOf e.slot) := by
  have h := holds_filter_perm hn he (fun k => k.slot = e.slot)
  rw [if_pos (decide_eq_true rfl)] at h
  unfold State.holdsOf
  rw [State.endHold_holds]
  exact h

theorem State.endHold_holdsOf_ne (hn : (s.hold.holds.map (·.number)).Nodup) (he : e ∈ s.hold.holds) (taken : Nat) {j : Nat}
    (hj : j ≠ e.slot) : (s.endHold e taken).holdsOf j = s.holdsOf j := by
  unfold State.holdsOf
  rw [State.endHold_holds, List.filter_filter]
  refine List.filter_congr fun k hk => ?_
  by_cases hs : k.slot = j
  · have : k.number ≠ e.number := fun h => hj (List.inj_on_of_nodup_map hn hk he h ▸ hs.symm)
    simp [hs, this]
  · simp [hs]

/-- The merchants' counts, their states and the holds placed with them, after the end of a hold. -/
theorem State.endHold_merchant_same (hw : s.TablesFormed) (hc : s.cardAt e.slot = some c) (taken i : Nat) :
    ((s.endHold e taken).merchant i).state = (s.merchant i).state ∧ ((s.endHold e taken).merchant i).openHolds =
      if i = e.merchant then (s.merchant i).openHolds - 1 else (s.merchant i).openHolds := by
  obtain ⟨ho, hs⟩ := (s.postAll_kept (endPostings s.today (splitParts taken e.parts) c.lots) hw.merchants).2 i
  rw [State.endHold_merchant hw.merchants hc]
  split
  · exact ⟨hs, congrArg (· - 1) ho⟩
  · exact ⟨hs, ho⟩

theorem closedCard_some {c d : Card} (h : closedCard c = some d) :
    d.lots = c.lots ∧ d.openHolds = c.openHolds := by
  unfold closedCard at h
  split at h
  · split at h
    · cases h
    · obtain rfl := Option.some.inj h; exact ⟨rfl, rfl⟩
  · obtain rfl := Option.some.inj h; exact ⟨rfl, rfl⟩

theorem closedCard_none {c : Card} (h : closedCard c = none) : c.openHolds = 0 := by
  unfold closedCard at h
  split at h
  · next hz => exact hz.2
  · cases h

/-- What a hold's parts reserve is held on its card. -/
theorem State.Reserved.covered (h : s.Reserved) (hn : (s.hold.holds.map (·.number)).Nodup) (he : e ∈ s.hold.holds)
    (hc : s.cardAt e.slot = some c) (taken : Nat) (key : LotKey) :
    centsUnder key (splitParts taken e.parts) + reservedBy key ((s.endHold e taken).holdsOf e.slot) = heldUnder key c.lots := by
  rw [(h.cards _ _ hc).1, reservedBy_perm (State.endHold_holdsOf hn he taken), reservedBy_cons, centsUnder_split]

/-- The card that the end of a hold leaves carries the holds that stand. -/
theorem State.Reserved.ended (h : s.Reserved) (k : s.Stock) (hn : (s.hold.holds.map (·.number)).Nodup) (he : e ∈ s.hold.holds)
    (hc : s.cardAt e.slot = some c) (taken : Nat) :
    (endedCard s e taken c).Carries ((s.endHold e taken).holdsOf e.slot) := by
  have hcov := h.covered hn he hc taken
  refine ⟨fun key => ?_, ?_⟩
  · have := (endLots_sums (today := s.today) (parts := splitParts taken e.parts) (k.cardLots hc)
      (fun key => by have := hcov key; omega) key fun _ => true).1
    have := hcov key
    show heldUnder key (endLots s.today (splitParts taken e.parts) c.lots) = _
    omega
  · have hlen := (h.cards _ _ hc).2.trans (State.endHold_holdsOf hn he taken).length_eq
    rw [List.length_cons] at hlen
    show c.openHolds - 1 = _
    omega

theorem State.Reserved.endHold (h : s.Reserved) (hw : s.TablesFormed) (k : s.Stock)
    (hn : (s.hold.holds.map (·.number)).Nodup) (he : e ∈ s.hold.holds) (taken : Nat) : (s.endHold e taken).Reserved := by
  obtain ⟨c, hc⟩ := h.present e he
  have hcar := h.ended k hn he hc taken
  have hmer := State.endHold_merchant_same hw hc taken
  refine h.update (State.endHold_cardAt hw.slots hc taken) (fun j hj => State.endHold_holdsOf_ne hn he taken hj)
    (fun d hd => ?_) (fun hd => hcar.none_held (closedCard_none hd)) (fun i => ?_) (fun x hx => ?_) fun i hi => ?_
  · obtain ⟨hl, ho⟩ := closedCard_some hd
    exact hcar.same (fun key => by rw [hl]) ho
  · have hp := (holds_filter_perm hn he (fun k => k.merchant = i)).length_eq
    rw [(hmer i).2, h.countAt, HoldTable.atMerchant, HoldTable.atMerchant, State.endHold_holds, hp]
    by_cases hi : i = e.merchant
    · simp [hi]
    · simp [hi, Ne.symm hi]
  · rw [State.endHold_holds] at hx
    exact .inl (List.mem_filter.mp hx).1
  · unfold State.Listed
    rw [(hmer i).1]
    exact hi

/-! ### A new hold, and minute ticks -/

/-- A new hold on the card that carries it. -/
theorem State.Reserved.addHold (h : s.Reserved) {d : Card} (hh : t.hold.holds = s.hold.holds ++ [e])
    (hcard : ∀ j, t.cardAt j = if j = e.slot then some d else s.cardAt j) (hd : d.Carries (s.holdsOf e.slot ++ [e]))
    (ha : e.amount = (e.parts.map (·.cents)).sum ∧ 0 < e.amount) (hl : s.Listed e.merchant)
    (hm : ∀ i, (t.merchant i).state = (s.merchant i).state ∧
      (t.merchant i).openHolds = if i = e.merchant then (s.merchant i).openHolds + 1 else (s.merchant i).openHolds) :
    t.Reserved := by
  have hof : ∀ j, t.holdsOf j = if j = e.slot then s.holdsOf j ++ [e] else s.holdsOf j := fun j => by
    unfold State.holdsOf
    rw [hh, List.filter_append]
    by_cases hj : j = e.slot
    · simp [hj]
    · simp [hj, Ne.symm hj]
  refine h.update hcard (fun j hj => (hof j).trans (if_neg hj)) (fun x hx => ?_) nofun (fun i => ?_) (fun k hk => ?_)
    fun i hi => ?_
  · rw [hof, if_pos rfl]
    exact Option.some.inj hx ▸ hd
  · rw [(hm i).2, h.countAt, HoldTable.atMerchant, HoldTable.atMerchant, hh, List.filter_append]
    by_cases hi : i = e.merchant
    · simp [hi]
    · simp [hi, Ne.symm hi]
  · rw [hh] at hk
    rcases List.mem_append.mp hk with hk | hk
    · exact .inl hk
    · obtain rfl := List.mem_singleton.mp hk
      exact .inr ⟨ha, hl⟩
  · unfold State.Listed
    rw [(hm i).1]
    exact hi

theorem State.Reserved.tick (h : s.Reserved) (hh : t.hold.holds = s.hold.tick.holds) (hc : t.cards = s.cards)
    (hm : t.merchants = s.merchants) : t.Reserved := by
  have hat : ∀ j, t.cardAt j = s.cardAt j := fun j => by unfold State.cardAt; rw [hc]
  have hmer : ∀ i, t.merchant i = s.merchant i := fun i => by unfold State.merchant; rw [hm]
  have mem : ∀ {k}, k ∈ t.hold.holds → ∃ x ∈ s.hold.holds, x.tick s.hold.lapsingBaskets = k := fun hk => by
    rw [hh] at hk
    exact List.mem_map.mp hk
  have hof : ∀ j, t.holdsOf j = (s.holdsOf j).map (Hold.tick s.hold.lapsingBaskets) := fun j => by
    simp [State.holdsOf, hh, HoldTable.tick, List.filter_map, Function.comp_def]
  have hres : ∀ key holds, reservedBy key (holds.map (Hold.tick s.hold.lapsingBaskets)) = reservedBy key holds :=
    fun key holds => by simp [reservedBy, List.flatMap_map]
  refine ⟨fun j d hd => ?_, fun i => ?_, fun k hk => ?_, fun k hk => ?_, fun k hk => ?_⟩
  · have hcar := h.cards j d (hat j ▸ hd)
    rw [hof]
    exact ⟨fun key => (hcar.1 key).trans (hres key _).symm, by rw [List.length_map]; exact hcar.2⟩
  · rw [hmer, h.countAt]
    simp [HoldTable.atMerchant, hh, HoldTable.tick, List.filter_map, Function.comp_def]
  · obtain ⟨x, hx, rfl⟩ := mem hk
    rw [Hold.tick_slot, hat]
    exact h.present x hx
  · obtain ⟨x, hx, rfl⟩ := mem hk
    rw [Hold.tick_amount, Hold.tick_parts]
    exact h.amount x hx
  · obtain ⟨x, hx, rfl⟩ := mem hk
    rw [State.Listed, Hold.tick_merchant, hmer]
    exact h.listedAt x hx

end

end Sys2Proof.Machine

namespace Sys2Proof.Machine

/-! ## The books while the store is READY: one rule for each kind of change -/

theorem le_valueWhere {p : LotKey → Bool} {lots : List Lot} {l : Lot} (hl : l ∈ lots) (hp : p l.key = true) :
    l.available + l.held ≤ valueWhere p lots :=
  List.le_sum_of_mem (List.mem_map_of_mem (List.mem_filter.mpr ⟨hl, hp⟩))

/-- The cents of a part under its key. -/
theorem le_centsUnder {parts : List PartEnd} {p : PartEnd} (hp : p ∈ parts) : p.taken + p.returned ≤ centsUnder p.key parts := by
  have hm := List.mem_map_of_mem (f := fun q : PartEnd => if q.key = p.key then q.taken + q.returned else 0) hp
  rw [if_pos rfl] at hm
  exact List.le_sum_of_mem hm

/-- The key of a part with cents is that of a lot that holds them. -/
theorem key_of_part {parts : List PartEnd} {lots : List Lot} (h : ∀ key, centsUnder key parts ≤ heldUnder key lots)
    {p : PartEnd} (hp : p ∈ parts) (hn : p.taken + p.returned ≠ 0) : p.key ∈ lots.map (·.key) := by
  have := le_centsUnder hp
  have := h p.key
  obtain ⟨l, hl, hk⟩ := exists_of_heldUnder (key := p.key) (lots := lots) (by omega)
  exact List.mem_map.mpr ⟨l, hl, hk⟩

/-- The end of a hold posts away, from each account, what the card's lots lose (R58). -/
theorem Account.end_downs (acc : Account) {today : Option Nat} {parts : List PartEnd} {lots : List Lot} (hl : LotsFormed lots)
    (hk : KeysFormed lots) (h : ∀ key, centsUnder key parts ≤ heldUnder key lots) :
    valueWhere acc.keys (endLots today parts lots) + acc.downs (endPostings today parts lots) = valueWhere acc.keys lots := by
  have hlots := acc.lots_downs today hk
  have hparts := acc.parts_downs today fun p hp hn => hk.part (key_of_part h hp hn)
  have hsum := (endLots_sums (today := today) hl h (paidKey 0 0) acc.keys).2
  rw [endPostings, Account.downs_append, hparts]
  omega

theorem Account.end_noUps (acc : Account) (today : Option Nat) (parts : List PartEnd) (lots : List Lot) :
    acc.NoUps (endPostings today parts lots) := .append acc (acc.lots_noUps today lots) (acc.parts_noUps today parts)

theorem lotsValue_end_le {today : Option Nat} {parts : List PartEnd} {lots : List Lot} (hl : LotsFormed lots)
    (h : ∀ key, centsUnder key parts ≤ heldUnder key lots) (p : LotKey → Bool) :
    valueWhere p (endLots today parts lots) ≤ valueWhere p lots := by
  have := (endLots_sums (today := today) hl h (paidKey 0 0) p).2
  have := valueWhere_expire_le p today lots
  omega

/-- The books while the store is READY, but for the baskets and the lapse list. -/
structure State.Books (s : State) : Prop where
  tables : s.TablesFormed
  stock : s.Stock
  balanced : s.Balanced
  reserved : s.Reserved

theorem State.TablesFormed.kept {s : State} (h : s.TablesFormed) : s.TablesKept False := .of_formed h False.elim

section
variable {s t : State} {slot : Nat} {c d : Card} {ps : List Posting}

/-! ### What postings name -/

/-- The sponsor of a PROMO lot on a card is listed. -/
theorem State.Stock.keyListed (h : s.Stock) (hc : s.cardAt slot = some c) {k : LotKey} (hk : k ∈ c.lots.map (·.key))
    (hp : k.kind = .promo) : s.Listed (k.sponsor.getD 0) := by
  obtain ⟨l, hl, rfl⟩ := List.mem_map.mp hk
  have hs : l.key.sponsor = some (l.key.sponsor.getD 0) := (LotKey.Formed.sponsor_iff (h.cardKeys hc l hl) hp _).mpr rfl
  refine h.sponsors _ fun hz => ?_
  have hle := State.valueWhere_card_le (Account.sponsor (l.key.sponsor.getD 0)).keys hc
  have hlot := le_valueWhere (p := (Account.sponsor (l.key.sponsor.getD 0)).keys) hl (by simp [Account.keys, hp, ← hs])
  have := (h.cardLots hc).valued l hl
  omega

theorem State.Stock.lotsListed (h : s.Stock) (hc : s.cardAt slot = some c) : TargetsIn s.Listed (lotsPostings s.today c.lots) :=
  .lots _ h.operatorListed fun _ hl _ hp => h.keyListed hc (List.mem_map_of_mem hl) hp

theorem State.Stock.partsListed (h : s.Stock) (hc : s.cardAt slot = some c) {parts : List PartEnd}
    (hk : ∀ p ∈ parts, p.taken + p.returned ≠ 0 → p.key ∈ c.lots.map (·.key)) :
    TargetsIn s.Listed (parts.flatMap (PartEnd.postings s.today)) :=
  .parts _ h.operatorListed fun p hp hn hpromo => h.keyListed hc (hk p hp hn) hpromo

/-! ### Changes of a card -/

/-- Postings that no account follows. -/
theorem State.Books.postAll (h : s.Books) (hp : TargetsIn s.Listed ps) (hu : ∀ acc : Account, acc.NoUps ps)
    (hd : ∀ acc : Account, acc.downs ps = 0) : (s.postAll ps).Books := by
  have hk := s.postAll_kept ps h.tables.merchants
  refine ⟨(h.tables.kept.postAll False.elim).formed, h.stock.postAll h.tables.merchants hp, ?_,
    h.reserved.postAll h.tables.merchants ps⟩
  refine ⟨fun n j => ?_, fun acc => ?_⟩
  · rw [State.postAll_directory, State.postAll_cardAt]
    exact h.balanced.named n j
  · have hb := h.balanced.below h.stock h.tables acc
    have hl : (s.postAll ps).allLots = s.allLots := by unfold State.allLots; rw [State.postAll_slots]
    rw [State.total_postAll_downs h.tables.merchants (hu acc) (Nat.lt_of_le_of_lt hb (by decide)), hd acc, hl]
    exact h.balanced.total acc

/-- A card rewritten, its holds as they were, and each account moved by what it gains or loses. -/
theorem State.Books.putCard (h : s.Books) (hc : s.cardAt slot = some c) (hn : d.number = c.number)
    (hp : TargetsIn s.Listed ps) (hl : LotsFormed d.lots) (hk : KeysFormed d.lots) (hv : lotsValue d.lots ≤ 1000000)
    (hs : ∀ i, valueWhere (Account.sponsor i).keys d.lots ≠ 0 → valueWhere (Account.sponsor i).keys c.lots ≠ 0 ∨ s.Listed i)
    (ht : ∀ acc, (s.postAll ps).total acc + valueWhere acc.keys c.lots = s.total acc + valueWhere acc.keys d.lots)
    (hh : ∀ key, heldUnder key d.lots = heldUnder key c.lots) (ho : d.openHolds = c.openHolds) :
    ((s.postAll ps).putCard slot d).Books := by
  have hw := h.tables.merchants
  have hkept := (s.postAll_kept ps hw).2
  have hslots := s.postAll_slots ps
  refine ⟨((h.tables.kept.postAll False.elim).putCard (h.tables.kept.cards.card hc).1 False.elim).formed, ?_,
    h.balanced.putCard h.tables.slots hc hn ht, ?_⟩
  · refine (h.stock.postAll hw hp).putCard (hslots ▸ h.tables.slots) ((s.postAll_cardAt ps slot).trans hc) hn hl hk hv
      fun i hi => (hs i hi).imp id fun hlisted => ?_
    unfold State.Listed
    rw [(hkept i).2]
    exact hlisted
  · refine h.reserved.setCard (x := some d) (slot := slot) (congrArg HoldTable.holds (s.postAll_hold ps)) (fun j => ?_)
      (fun x hx => ?_) nofun hkept
    · rw [State.putCard_cardAt, State.postAll_cardAt]
    · obtain rfl := Option.some.inj hx
      exact (h.reserved.cards _ _ hc).same hh ho

/-- A card retired that carries no hold, its value posted away. -/
theorem State.Books.retireCard (h : s.Books) (hc : s.cardAt slot = some c) {n : Nat} (hn : n = c.number)
    (hp : TargetsIn s.Listed ps) (ht : ∀ acc, (s.postAll ps).total acc + valueWhere acc.keys c.lots = s.total acc)
    (ho : c.openHolds = 0) : ((s.postAll ps).retireCard slot n).Books := by
  have hw := h.tables.merchants
  have hslots := s.postAll_slots ps
  refine ⟨((h.tables.kept.postAll False.elim).retireCard slot n).formed,
    (h.stock.postAll hw hp).retireCard (hslots ▸ h.tables.slots) ((s.postAll_cardAt ps slot).trans hc) n,
    h.balanced.retireCard h.tables hc hn ht, ?_⟩
  refine h.reserved.setCard (x := none) (slot := slot) (congrArg HoldTable.holds (s.postAll_hold ps)) (fun j => ?_) nofun
    (fun _ => (h.reserved.cards _ _ hc).none_held ho) (s.postAll_kept ps hw).2
  rw [State.retireCard_cardAt (hslots ▸ h.tables.slots), State.postAll_cardAt]

/-- A new card with nothing held, its value posted. -/
theorem State.Books.insertCard (h : s.Books) (hslot : slot < Config.cardSlots) (hc : s.cardAt slot = none)
    (hn : tableFind s.cards.directory d.number = none) (hp : TargetsIn s.Listed ps) (hl : LotsFormed d.lots)
    (hk : KeysFormed d.lots) (hv : lotsValue d.lots ≤ 1000000)
    (hs : ∀ i, valueWhere (Account.sponsor i).keys d.lots ≠ 0 → s.Listed i)
    (ht : ∀ acc, (s.postAll ps).total acc = s.total acc + valueWhere acc.keys d.lots)
    (hh : ∀ key, heldUnder key d.lots = 0) (ho : d.openHolds = 0) : ((s.postAll ps).insertCard slot d).Books := by
  have hw := h.tables.merchants
  have hkept := (s.postAll_kept ps hw).2
  have hslots := s.postAll_slots ps
  refine ⟨((h.tables.kept.postAll False.elim).insertCard hslot False.elim).formed, ?_,
    h.balanced.insertCard h.tables.slots hc hn ht, ?_⟩
  · refine (h.stock.postAll hw hp).insertCard (hslots ▸ h.tables.slots) ((s.postAll_cardAt ps slot).trans hc) (fun j x hx he => ?_)
      hl hk hv fun i hi => ?_
    · rw [State.postAll_cardAt] at hx
      rw [(h.balanced.named _ j).mpr ⟨x, hx, he⟩] at hn
      cases hn
    · unfold State.Listed
      rw [(hkept i).2]
      exact hs i hi
  · refine h.reserved.setCard (x := some d) (slot := slot) (congrArg HoldTable.holds (s.postAll_hold ps)) (fun j => ?_)
      (fun x hx => ?_) nofun hkept
    · exact ((s.postAll ps).putCard_cardAt slot j d).trans (by rw [State.postAll_cardAt])
    · obtain rfl := Option.some.inj hx
      rw [h.reserved.none_at hc]
      exact ⟨hh, ho⟩

/-- A card under a new number. -/
theorem State.Books.renameCard (h : s.Books) (hc : s.cardAt slot = some c) {o : Nat} (hold : o = c.number)
    (hn : tableFind s.cards.directory d.number = none) (hp : TargetsIn s.Listed ps) (hl : LotsFormed d.lots)
    (hk : KeysFormed d.lots) (hv : lotsValue d.lots ≤ 1000000)
    (hs : ∀ i, valueWhere (Account.sponsor i).keys d.lots ≠ 0 → valueWhere (Account.sponsor i).keys c.lots ≠ 0)
    (ht : ∀ acc, (s.postAll ps).total acc + valueWhere acc.keys c.lots = s.total acc + valueWhere acc.keys d.lots)
    (hh : ∀ key, heldUnder key d.lots = heldUnder key c.lots) (ho : d.openHolds = c.openHolds) :
    ((s.postAll ps).renameCard slot o d).Books := by
  have hw := h.tables.merchants
  have hslots := s.postAll_slots ps
  refine ⟨((h.tables.kept.postAll False.elim).renameCard o (h.tables.kept.cards.card hc).1 False.elim).formed, ?_,
    h.balanced.renameCard h.tables hc hold hn ht, ?_⟩
  · refine (h.stock.postAll hw hp).renameCard (hslots ▸ h.tables.slots) ((s.postAll_cardAt ps slot).trans hc) o
      (fun j x hx he => ?_) hl hk hv hs
    rw [State.postAll_cardAt] at hx
    rw [(h.balanced.named _ j).mpr ⟨x, hx, he⟩] at hn
    cases hn
  · refine h.reserved.setCard (x := some d) (slot := slot) (congrArg HoldTable.holds (s.postAll_hold ps)) (fun j => ?_)
      (fun x hx => ?_) nofun (s.postAll_kept ps hw).2
    · exact ((s.postAll ps).putCard_cardAt slot j d).trans (by rw [State.postAll_cardAt])
    · obtain rfl := Option.some.inj hx
      exact (h.reserved.cards _ _ hc).same hh ho

/-! ### The end of a hold -/

theorem State.Books.endHold (h : s.Books) (hn : (s.hold.holds.map (·.number)).Nodup) {e : Hold} (he : e ∈ s.hold.holds)
    (taken : Nat) : (s.endHold e taken).Books := by
  obtain ⟨c, hc⟩ := h.reserved.present e he
  have hw := h.tables.merchants
  have hlots := h.stock.cardLots hc
  have hkeys := h.stock.cardKeys hc
  have hcov : ∀ key, centsUnder key (splitParts taken e.parts) ≤ heldUnder key c.lots := fun key => by
    have := h.reserved.covered hn he hc taken key
    omega
  have hp : TargetsIn s.Listed (endPostings s.today (splitParts taken e.parts) c.lots) :=
    .append (h.stock.lotsListed hc) (h.stock.partsListed hc fun p hp hz => key_of_part hcov hp hz)
  have hcards := State.endHold_cards hc taken
  have hmer : ∀ i, ((s.endHold e taken).merchant i).sponsored = ((endPosted s e taken c).merchant i).sponsored ∧
      ((s.endHold e taken).merchant i).state = ((endPosted s e taken c).merchant i).state ∧
      ((s.endHold e taken).merchant i).position = ((endPosted s e taken c).merchant i).position := fun i => by
    rw [State.endHold_merchant hw hc]
    split <;> exact ⟨rfl, rfl, rfl⟩
  have hsame : ∀ i, ((endPosted s e taken c).closingCheck e.slot (endedCard s e taken c)).merchant i =
      (endPosted s e taken c).merchant i := fun i => by
    unfold State.merchant
    rw [State.closingCheck_merchants]
  refine ⟨(h.tables.kept.endHold False.elim taken).formed, ?_, ?_, h.reserved.endHold h.tables h.stock hn he taken⟩
  · have hk := (h.stock.postAll hw hp).closingCheck (slot := e.slot) (c := c) (d := endedCard s e taken c)
      ((s.postAll_slots _).symm ▸ h.tables.slots) ((s.postAll_cardAt _ _).trans hc) rfl (endLots_formed _ _ hlots)
      (hkeys.of_keys (endLots_keys _ _ _).subset)
      (by
        have := lotsValue_end_le (today := s.today) hlots hcov fun _ => true
        rw [← lotsValue_eq, ← lotsValue_eq] at this
        exact this.trans (h.stock.cardValue hc))
      (fun i hi => .inl fun hz => hi (by
        have := lotsValue_end_le (today := s.today) hlots hcov (Account.sponsor i).keys
        rw [hz] at this
        exact Nat.le_zero.mp this))
    refine hk.congr (congrArg CardTable.slots hcards) (fun i => ?_) fun i hi => .inl ?_
    · rw [hsame]
      exact (hmer i).2.1
    · rw [hsame]
      rwa [(hmer i).2.2] at hi
  · have hb := h.balanced.closingCheck (d := endedCard s e taken c) h.tables hc rfl
      (h.balanced.taken h.stock h.tables hc (fun acc => acc.end_noUps _ _ _) fun acc => acc.end_downs hlots hkeys hcov)
    refine hb.congr hcards fun i => ?_
    rw [hsame]
    exact (hmer i).1

/-! ### A new hold -/

/-- An accepted AUTHORIZE. -/
theorem State.Books.authorize (h : s.Books) (hc : s.cardAt slot = some c) {a m : Nat} {e : Hold} (hslot : e.slot = slot)
    (hm : e.merchant = m) (hlisted : s.Listed m) (hparts : e.parts = partsOf a (expireLots s.today c.lots))
    (hamount : e.amount = a) (hpos : 0 < a) (hcov : a ≤ lotsAvailable (expireLots s.today c.lots)) :
    (s.authorized slot m a c e).Books := by
  subst hslot hm
  have hw := h.tables.merchants
  have hlots := expireLots_formed s.today c.lots (h.stock.cardLots hc)
  have hkeys := (h.stock.cardKeys hc).expire s.today
  have hkeyseq := reserveLots_keys a (expireLots s.today c.lots)
  have hval : ∀ p, valueWhere p (reserveLots a (expireLots s.today c.lots)) ≤ valueWhere p c.lots := fun p => by
    rw [valueWhere_reserve]
    exact valueWhere_expire_le p s.today c.lots
  have hposted := h.stock.postAll hw (h.stock.lotsListed hc)
  have hslots := s.postAll_slots (lotsPostings s.today c.lots)
  have hput := hposted.putCard (slot := e.slot) (c := c)
    (d := { c with lots := reserveLots a (expireLots s.today c.lots), openHolds := c.openHolds + 1 })
    (hslots.symm ▸ h.tables.slots) ((s.postAll_cardAt _ _).trans hc) rfl (reserveLots_formed a hlots)
    (hkeys.of_keys (by rw [hkeyseq]; exact List.Subset.refl _))
    (by rw [lotsValue_eq]; exact (hval _).trans (lotsValue_eq c.lots ▸ h.stock.cardValue hc))
    (fun i hi => .inl fun hz => hi (Nat.le_zero.mp (hz ▸ hval _)))
  have hbal := h.balanced.putCard (slot := e.slot) (c := c)
    (d := { c with lots := reserveLots a (expireLots s.today c.lots), openHolds := c.openHolds + 1 }) h.tables.slots hc rfl
    (h.balanced.taken h.stock h.tables hc (fun acc => acc.lots_noUps s.today c.lots) fun acc => by
      rw [valueWhere_reserve]
      exact acc.lots_downs s.today (h.stock.cardKeys hc))
  have hmer : ∀ i, (s.authorized e.slot e.merchant a c e).merchant i = if i = e.merchant then
      { (s.expiryPosted c).merchant i with openHolds := ((s.expiryPosted c).merchant i).openHolds + 1 }
      else (s.expiryPosted c).merchant i := fun i => by
    have := State.onMerchant_merchant (s := (s.expiryPosted c).putCard e.slot
      { c with lots := reserveLots a (expireLots s.today c.lots), openHolds := c.openHolds + 1 })
      (s.postAll_kept (lotsPostings s.today c.lots) hw).1.1 e.merchant i (fun r => { r with openHolds := r.openHolds + 1 })
    refine this.trans ?_
    split
    · next hi => subst hi; rfl
    · rfl
  have hkept := (s.postAll_kept (lotsPostings s.today c.lots) hw).2
  have htables := ((h.tables.kept.expiryPosted hc).putCard (h.tables.kept.cards.card hc).1 (c := { c with
    lots := reserveLots a (expireLots s.today c.lots), openHolds := c.openHolds + 1 }) False.elim).onMerchant
    (i := e.merchant) (fun r => { r with openHolds := r.openHolds + 1 }) False.elim
  refine ⟨(htables.withHold (t := s.hold.addHold e) ⟨False.elim, False.elim⟩).formed, ?_, ?_, ?_⟩
  · refine hput.congr rfl (fun i => ?_) fun i hi => .inl ?_
    · rw [hmer]
      split <;> rfl
    · rw [hmer] at hi
      split at hi <;> exact hi
  · refine hbal.congr rfl fun i => ?_
    rw [hmer]
    split <;> rfl
  · refine h.reserved.addHold rfl (d := { c with
      lots := reserveLots a (expireLots s.today c.lots), openHolds := c.openHolds + 1 }) (fun j => ?_) ⟨fun key => ?_, ?_⟩
      ⟨?_, hamount ▸ hpos⟩ hlisted fun i => ?_
    · exact ((s.expiryPosted c).putCard_cardAt e.slot j _).trans (by rw [State.postAll_cardAt])
    · rw [heldUnder_reserve, heldUnder_expire, reservedBy_append, (h.reserved.cards _ _ hc).1, reservedBy_cons, hparts]
      rfl
    · rw [List.length_append, ← (h.reserved.cards _ _ hc).2]
      rfl
    · rw [hamount, hparts, partsOf_sum, Nat.min_eq_left hcov]
    · rw [hmer]
      split
      · exact ⟨(hkept i).2, congrArg (· + 1) (hkept i).1⟩
      · exact ⟨(hkept i).2, (hkept i).1⟩

end

end Sys2Proof.Machine

namespace Sys2Proof.Machine

/-! ## Baskets and their members -/

section
variable {t : HoldTable} {b : Basket} {h : Hold}

theorem HoldTable.Agrees.holdEntry (a : t.Agrees) (hh : h ∈ t.holds) : t.holdEntry h.number = some h := by
  cases hf : t.holdEntry h.number with
  | none => exact absurd (decide_eq_true rfl) (List.find?_eq_none.mp hf h hh)
  | some x =>
    obtain ⟨hx, hn⟩ := holdEntry_spec hf
    rw [hold_ext a.numbers hx hh hn]

/-- The member holds of a basket are the holds that name it. -/
theorem HoldTable.Agrees.mem_members (a : t.Agrees) (hb : b ∈ t.baskets) :
    h ∈ t.memberHolds b.members ↔ h ∈ t.holds ∧ h.basket = some b.number := by
  constructor
  · intro hm
    obtain ⟨n, hn, hf⟩ := List.mem_filterMap.mp hm
    obtain ⟨hh, hnum⟩ := holdEntry_spec hf
    obtain ⟨x, hx, hxn, hxb⟩ := (a.memberIff b hb n).mp hn
    exact ⟨hh, hold_ext a.numbers hx hh (hxn.trans hnum.symm) ▸ hxb⟩
  · rintro ⟨hh, hj⟩
    exact List.mem_filterMap.mpr ⟨h.number, (a.memberIff b hb _).mpr ⟨h, hh, rfl, hj⟩, a.holdEntry hh⟩

/-- A basket's member holds, in join order. -/
theorem HoldTable.Agrees.memberHolds_numbers (a : t.Agrees) (hb : b ∈ t.baskets) :
    (t.memberHolds b.members).map (·.number) = b.members := by
  have found : ∀ n ∈ b.members, ∃ x, t.holdEntry n = some x ∧ x.number = n := fun n hn => by
    obtain ⟨x, hx, rfl, -⟩ := (a.memberIff b hb n).mp hn
    exact ⟨x, a.holdEntry hx, rfl⟩
  generalize b.members = ns at found ⊢
  induction ns with
  | nil => rfl
  | cons n rest ih =>
    obtain ⟨x, hx, hn⟩ := found n List.mem_cons_self
    rw [HoldTable.memberHolds, List.filterMap_cons_some hx, List.map_cons, hn]
    exact congrArg (n :: ·) (ih fun m hm => found m (List.mem_cons_of_mem n hm))

end

/-! ## The books and the Hold Table together -/

/-- All that stands of the books while the store is READY. -/
structure State.Ledger (s : State) : Prop where
  books : s.Books
  agrees : s.hold.Agrees

section
variable {s t : State} {e : Hold} {b : Basket} {ends : List (Hold × Nat)}

theorem State.Stock.same (h : s.Stock) (hc : t.cards = s.cards) (hm : t.merchants = s.merchants) : t.Stock := by
  have hmer : ∀ i, t.merchant i = s.merchant i := fun i => by unfold State.merchant; rw [hm]
  exact h.congr (congrArg CardTable.slots hc) (fun i => by rw [hmer]) fun i hi => .inl (hmer i ▸ hi)

/-- Cards, merchants and holds alone count. -/
theorem State.Books.same (h : s.Books) (hw : t.TablesFormed) (hc : t.cards = s.cards) (hm : t.merchants = s.merchants)
    (hh : t.hold.holds = s.hold.holds) : t.Books := by
  have hmer : ∀ i, t.merchant i = s.merchant i := fun i => by unfold State.merchant; rw [hm]
  refine ⟨hw, h.stock.same hc hm, h.balanced.congr hc fun i => by rw [hmer], ?_⟩
  refine h.reserved.congr hh (fun j => by unfold State.cardAt; rw [hc]) (fun i => by rw [hmer]) fun i _ hi => ?_
  unfold State.Listed
  rw [hmer]
  exact hi

theorem State.Ledger.same (h : s.Ledger) (hw : t.TablesFormed) (hc : t.cards = s.cards) (hm : t.merchants = s.merchants)
    (hh : t.hold.holds = s.hold.holds) (hb : t.hold.baskets = s.hold.baskets) (hl : t.hold.lapse = s.hold.lapse) : t.Ledger :=
  ⟨h.books.same hw hc hm hh, h.agrees.congr hh hb hl⟩

/-! ### The end of OPEN holds -/

theorem State.Ledger.endOpen (h : s.Ledger) (he : e ∈ s.hold.holds) (ho : e.state = .opened) (taken : Nat) :
    (s.endHold e taken).Ledger :=
  ⟨h.books.endHold h.agrees.numbers he taken, by rw [State.endHold_hold]; exact h.agrees.freeOpen he ho⟩

theorem State.endHolds_cons (x : Hold × Nat) (rest : List (Hold × Nat)) :
    s.endHolds (x :: rest) = (s.endHold x.1 x.2).endHolds rest := rfl

theorem State.mem_endHold {x : Hold} {taken : Nat} :
    x ∈ (s.endHold e taken).hold.holds ↔ x ∈ s.hold.holds ∧ x.number ≠ e.number := by
  rw [State.endHold_hold]
  exact mem_freeHold

theorem State.Ledger.endHolds (h : s.Ledger) (hn : (ends.map (·.1.number)).Nodup)
    (hm : ∀ x ∈ ends, x.1 ∈ s.hold.holds ∧ x.1.state = .opened) : (s.endHolds ends).Ledger := by
  induction ends generalizing s with
  | nil => exact h
  | cons x rest ih =>
    obtain ⟨hx, hrest⟩ := List.nodup_cons.mp hn
    obtain ⟨hmem, hopen⟩ := hm x List.mem_cons_self
    refine ih (h.endOpen hmem hopen x.2) hrest fun y hy => ?_
    obtain ⟨hy1, hy2⟩ := hm y (List.mem_cons_of_mem x hy)
    exact ⟨State.mem_endHold.mpr ⟨hy1, fun hnum => hx (List.mem_map.mpr ⟨y, hy, hnum⟩)⟩, hy2⟩

/-- The holds that stand after others are ended. -/
theorem State.mem_endHolds {x : Hold} :
    x ∈ (s.endHolds ends).hold.holds ↔ x ∈ s.hold.holds ∧ ∀ y ∈ ends, x.number ≠ y.1.number := by
  induction ends generalizing s with
  | nil => exact ⟨fun h => ⟨h, nofun⟩, And.left⟩
  | cons y rest ih => rw [State.endHolds_cons, ih, State.mem_endHold, List.forall_mem_cons, and_assoc]

/-- The baskets that stand after holds are ended stood before, with their state. -/
theorem State.endHolds_baskets {k : Basket} (hk : k ∈ (s.endHolds ends).hold.baskets) :
    ∃ b ∈ s.hold.baskets, b.number = k.number ∧ b.state = k.state := by
  induction ends generalizing s with
  | nil => exact ⟨k, hk, rfl, rfl⟩
  | cons y rest ih =>
    obtain ⟨b, hb, hn, hs⟩ := ih hk
    rw [State.endHold_hold] at hb
    rcases mem_freeHold_baskets hb with hb | ⟨c, hc, rfl⟩
    · exact ⟨b, hb, hn, hs⟩
    · exact ⟨c, hc, hn, hs⟩

/-- A basket that none of the ended holds names stays as it is. -/
theorem State.basket_endHolds (hb : b ∈ s.hold.baskets) (hj : ∀ x ∈ ends, x.1.basket ≠ some b.number) :
    b ∈ (s.endHolds ends).hold.baskets := by
  induction ends generalizing s with
  | nil => exact hb
  | cons x rest ih =>
    have hx := hj x List.mem_cons_self
    refine ih ?_ fun y hy => hj y (List.mem_cons_of_mem x hy)
    rw [State.endHold_hold]
    exact mem_freeHold_iff.mpr ⟨⟨b, hb, (if_neg hx).symm⟩, fun hc => hx hc.1⟩

theorem State.endHold_state (hw : s.TablesFormed) (taken i : Nat) :
    ((s.endHold e taken).merchant i).state = (s.merchant i).state := by
  cases hc : s.cardAt e.slot with
  | some c => exact (State.endHold_merchant_same hw hc taken i).1
  | none =>
    simp only [State.endHold, State.endOnCard, hc]
    rw [State.onMerchant_merchant (s := { s with hold := s.hold.freeHold e }) hw.merchants.1]
    split
    · next hi => subst hi; rfl
    · rfl

theorem State.endHolds_state (hw : s.TablesFormed) (i : Nat) : ((s.endHolds ends).merchant i).state = (s.merchant i).state := by
  induction ends generalizing s with
  | nil => rfl
  | cons x rest ih =>
    exact (ih (hw.kept.endHold False.elim x.2).formed).trans (State.endHold_state hw x.2 i)

/-! ### The end of an OPEN basket (R84, R86) -/

/-- The members of an OPEN basket are OPEN holds with distinct numbers. -/
theorem State.Ledger.members (h : s.Ledger) (hb : b ∈ s.hold.baskets) (ho : b.state = .opened)
    (hm : ends.map (·.1) = s.hold.memberHolds b.members) :
    (ends.map (·.1.number)).Nodup ∧ ∀ x ∈ ends, (x.1 ∈ s.hold.holds ∧ x.1.state = .opened) ∧ x.1.basket = some b.number := by
  have hnum : ends.map (·.1.number) = b.members := by
    rw [← h.agrees.memberHolds_numbers hb, ← hm, List.map_map]
    rfl
  refine ⟨hnum ▸ h.agrees.members b hb, fun x hx => ?_⟩
  obtain ⟨hmem, hj⟩ := (h.agrees.mem_members hb).mp (hm ▸ List.mem_map_of_mem (f := Prod.fst) hx)
  exact ⟨⟨hmem, (h.agrees.same x.1 hmem b hb hj).1.trans ho⟩, hj⟩

theorem State.Ledger.endBasket (h : s.Ledger) (hb : b ∈ s.hold.baskets) (ho : b.state = .opened)
    (hm : ends.map (·.1) = s.hold.memberHolds b.members) : ((s.endHolds ends).freeBasket b.number).Ledger := by
  obtain ⟨hn, hmem⟩ := h.members hb ho hm
  have he := h.endHolds hn fun x hx => (hmem x hx).1
  refine ⟨he.books.same (he.books.tables.kept.freeBasket b.number).formed rfl rfl rfl,
    he.agrees.freeOpenBasket b.number (fun x hx hj => ?_) fun k hk hkn => ?_⟩
  · obtain ⟨hx, hne⟩ := State.mem_endHolds.mp hx
    have hmx : x ∈ ends.map (·.1) := hm ▸ (h.agrees.mem_members hb).mpr ⟨hx, hj⟩
    obtain ⟨y, hy, rfl⟩ := List.mem_map.mp hmx
    exact hne y hy rfl
  · obtain ⟨k', hk', hkn', hks⟩ := State.endHolds_baskets hk
    rw [← hks, h.agrees.basket_ext hk' hb (hkn'.trans hkn)]
    exact ho

/-- The OPEN baskets released one after another (R89). -/
theorem State.Ledger.releaseBaskets {bs : List Basket} (h : s.Ledger) (hn : (bs.map (·.number)).Nodup)
    (hm : ∀ b ∈ bs, b ∈ s.hold.baskets ∧ b.state = .opened) : (bs.foldl State.releaseBasket s).Ledger := by
  induction bs generalizing s with
  | nil => exact h
  | cons b rest ih =>
    obtain ⟨hbn, hrest⟩ := List.nodup_cons.mp hn
    obtain ⟨hb, ho⟩ := hm b List.mem_cons_self
    have hends := releaseEnds_holds s b
    refine ih (h.endBasket hb ho hends) hrest fun k hk => ?_
    obtain ⟨hkb, hko⟩ := hm k (List.mem_cons_of_mem b hk)
    have hne : k.number ≠ b.number := fun e => hbn (List.mem_map.mpr ⟨k, hk, e⟩)
    refine ⟨List.mem_filter.mpr ⟨State.basket_endHolds hkb fun x hx hj => hne ?_, by simpa using hne⟩, hko⟩
    exact Option.some.inj (hj.symm.trans ((h.members hb ho hends).2 x hx).2)

theorem State.Ledger.clearTerminal (h : s.Ledger) (m n : Nat) :
    ((s.clearBaskets m n).endHolds ((s.clearBaskets m n).clearedHolds m n)).Ledger := by
  have hc : (s.clearBaskets m n).Ledger := by
    refine h.releaseBaskets (h.agrees.basketNumbers.sublist (List.filter_sublist.map _)) fun b hb => ?_
    obtain ⟨hb, hp⟩ := List.mem_filter.mp hb
    simp only [Bool.and_eq_true, decide_eq_true_eq] at hp
    exact ⟨hb, hp.1.1⟩
  refine hc.endHolds ?_ fun x hx => ?_
  · have hs : ((s.clearBaskets m n).clearedHolds m n).map (·.1.number) =
        ((s.clearBaskets m n).hold.terminalHolds m n).map (·.number) := by
      simp [State.clearedHolds, Function.comp_def]
    rw [hs]
    exact hc.agrees.numbers.sublist (List.filter_sublist.map _)
  · obtain ⟨y, hy, rfl⟩ := List.mem_map.mp hx
    obtain ⟨hy, hp⟩ := List.mem_filter.mp hy
    simp only [Bool.and_eq_true, decide_eq_true_eq] at hp
    exact ⟨hy, hp.1.1⟩

/-! ### Merchants -/

theorem State.setMerchant_merchant (hw : tableWf s.merchants) (i j : Nat) (m : Merchant) :
    (s.setMerchant i m).merchant j = if j = i then m else s.merchant j :=
  State.onMerchant_merchant hw i j fun _ => m

/-- A merchant's record written, its sponsored outstanding and its count as they were. -/
theorem State.Books.setMerchant (h : s.Books) {i : Nat} {m : Merchant} (hs : m.sponsored = (s.merchant i).sponsored)
    (ho : m.openHolds = (s.merchant i).openHolds)
    (hu : m.state = .unlisted → m.sponsored = 0 ∧ m.openHolds = 0 ∧ m.position = Position.zero)
    (h0 : i = 0 → m.state = .active) : (s.setMerchant i m).Books := by
  have hmer := fun j => State.setMerchant_merchant h.tables.merchants.1 i j m
  have listed : ∀ {j}, s.Listed j → (j = i → m.state ≠ .unlisted) → (s.setMerchant i m).Listed j := fun {j} hj hi => by
    unfold State.Listed
    rw [hmer]
    split
    · next e => exact hi e
    · exact hj
  refine ⟨(h.tables.kept.setMerchant m False.elim).formed,
    ⟨h.stock.lots, h.stock.keys, h.stock.value, h.stock.numbers, ?_, fun j hj => ?_, fun j hj => ?_⟩,
    h.balanced.congr rfl fun j => ?_, h.reserved.congr rfl (fun _ => rfl) (fun j => ?_) fun j hj hl => ?_⟩
  · rw [hmer]
    split
    · next e => exact h0 e.symm
    · exact h.stock.operator
  · refine listed (h.stock.sponsors j hj) fun e hm => hj ?_
    subst e
    exact (h.balanced.total (.sponsor j)).symm.trans (hs.symm.trans (hu hm).1)
  · rw [hmer] at hj
    split at hj
    · next e =>
      unfold State.Listed
      rw [hmer, if_pos e]
      exact fun hm => hj (hu hm).2.2
    · next e => exact listed (h.stock.positions j hj) fun e' => absurd e' e
  · rw [hmer]
    split
    · next e => rw [e, hs]
    · rfl
  · rw [hmer]
    split
    · next e => rw [e, ho]
    · rfl
  · refine listed hl fun e hm => hj ?_
    subst e
    exact ho.symm.trans (hu hm).2.1

/-- An UNLISTED merchant has nothing sponsored, and no hold placed with it. -/
theorem State.Books.unlisted (h : s.Books) {i : Nat} (hu : (s.merchant i).state = .unlisted) :
    (s.merchant i).sponsored = 0 ∧ (s.merchant i).openHolds = 0 := by
  constructor
  · by_contra hn
    exact h.stock.sponsors i ((h.balanced.total (.sponsor i)) ▸ hn) hu
  · rw [h.reserved.countAt]
    refine List.length_eq_zero_iff.mpr (List.eq_nil_iff_forall_not_mem.mpr fun e he => ?_)
    obtain ⟨hmem, rfl⟩ := HoldTable.mem_atMerchant.mp he
    exact h.reserved.listedAt e hmem hu

end

end Sys2Proof.Machine

namespace Sys2Proof.Machine

/-! ## Changes outside the books -/

/-- Cards, merchants, holds, baskets, settings and the store's state are the same, and a PARKED store stays free. -/
structure State.SameBooks (s t : State) : Prop where
  cards : t.cards = s.cards
  merchants : t.merchants = s.merchants
  hold : t.hold = { s.hold with ticksDue := t.hold.ticksDue }
  settings : t.settings = s.settings
  store : t.store.state = s.store.state
  holder : s.store.state = .parked → s.arbiter.holder = none → t.arbiter.holder = none

section
variable {s t u : State}

theorem State.SameBooks.trans (h : s.SameBooks t) (k : t.SameBooks u) : s.SameBooks u :=
  ⟨k.cards.trans h.cards, k.merchants.trans h.merchants, by rw [k.hold, h.hold], k.settings.trans h.settings,
    k.store.trans h.store, fun hp hn => k.holder (h.store.trans hp) (h.holder hp hn)⟩

/-- The books and the arbiter are the same. -/
theorem State.SameBooks.of_eq (hc : t.cards = s.cards) (hm : t.merchants = s.merchants) (hh : t.hold = s.hold)
    (hs : t.settings = s.settings) (hst : t.store = s.store) (ha : t.arbiter = s.arbiter) : s.SameBooks t :=
  ⟨hc, hm, by rw [hh], hs, by rw [hst], fun _ h => by rw [ha]; exact h⟩

theorem State.SameBooks.raiseIf (s : State) (b : Bool) (c : Condition) : s.SameBooks (s.raiseIf b c) := by
  cases b <;> exact .of_eq rfl rfl rfl rfl rfl rfl

theorem State.SameBooks.deliver (s : State) (e : EventSource) : s.SameBooks (s.deliver e) := by
  rw [(s.deliver_event e).eq]
  exact .of_eq rfl rfl rfl rfl rfl rfl

/-- The arbiter grants nothing of a PARKED store (R176). -/
theorem State.grantee_parked (h : s.store.state = .parked) : s.grantee = none := by
  refine List.find?_eq_none.mpr fun c _ => ?_
  simp [State.grantable, h]

theorem State.SameBooks.arbitrate (s : State) : s.SameBooks s.arbitrate := by
  refine ⟨s.arbitrate_cards, s.arbitrate_merchants, by rw [s.arbitrate_hold], s.arbitrate_settings, by rw [s.arbitrate_store],
    fun hp hn => ?_⟩
  rwa [s.arbitrate_of_none (State.grantee_parked hp)]

theorem State.SameBooks.requestCut (s : State) : s.SameBooks s.requestCut := by
  unfold State.requestCut
  split <;> exact .of_eq rfl rfl rfl rfl rfl rfl

theorem State.SameBooks.countDay (s : State) : s.SameBooks s.countDay := by
  unfold State.countDay
  split
  · split
    · exact .trans (t := { s with period := { s.period with counterValue := 0, counterState := .expired } }) (.of_eq rfl rfl rfl rfl rfl rfl)
        (.requestCut _)
    · exact .of_eq rfl rfl rfl rfl rfl rfl
  · exact .of_eq rfl rfl rfl rfl rfl rfl

theorem State.SameBooks.takeRoll (s : State) : s.SameBooks s.takeRoll := by
  unfold State.takeRoll
  split
  · exact .trans (t := { s with clock := { s.clock with day := min (s.clock.day + 1) Config.dayMax, rollDue := false } })
      (.of_eq rfl rfl rfl rfl rfl rfl) ((State.SameBooks.countDay _).trans ((State.SameBooks.deliver _ _).trans (.arbitrate _)))
  · exact .of_eq rfl rfl rfl rfl rfl rfl

theorem State.SameBooks.readQueue (s : State) : s.SameBooks s.readQueue := by
  have hc : ∀ u : State, u.SameBooks u.completeRun := fun u =>
    .trans (t := { u with
      payout := { u.payout with run := Run.idle }
      period := { u.period with snapshot := { u.period.snapshot with state := .paid } } }) (.of_eq rfl rfl rfl rfl rfl rfl) (.deliver _ _)
  unfold State.readQueue
  dsimp only
  split
  · exact .trans (by exact .of_eq rfl rfl rfl rfl rfl rfl) (hc _)
  · exact .of_eq rfl rfl rfl rfl rfl rfl

theorem State.SameBooks.startPass (s : State) : s.SameBooks s.startPass := by
  unfold State.startPass
  split <;> exact .of_eq rfl rfl rfl rfl rfl rfl

theorem State.SameBooks.walkUnit (s : State) : s.SameBooks s.walkUnit := by
  unfold State.walkUnit
  split <;> exact .of_eq rfl rfl rfl rfl rfl rfl

theorem State.SameBooks.endPass (s : State) : s.SameBooks s.endPass := by
  unfold State.endPass
  split
  · exact .trans (t := s.beginPass) (.of_eq rfl rfl rfl rfl rfl rfl) (.deliver _ _)
  · exact .trans (t := { s with sweep := { s.sweep with pass := .idle, position := 0 } }) (.of_eq rfl rfl rfl rfl rfl rfl) (.deliver _ _)

theorem State.SameBooks.put (s : State) (bytes : List Byte) : s.SameBooks (s.put bytes) := by
  unfold State.put
  split
  · exact .of_eq rfl rfl rfl rfl rfl rfl
  split
  · exact .of_eq rfl rfl rfl rfl rfl rfl
  · next f _ =>
    unfold State.enqueue
    split
    · exact .trans (t := { s with link := { s.link with intake := s.link.intake ++ [f] } }) (.of_eq rfl rfl rfl rfl rfl rfl) (.arbitrate _)
    · exact .of_eq rfl rfl rfl rfl rfl rfl

theorem State.SameBooks.take (s : State) (n : Nat) : s.SameBooks (s.take n) := by
  unfold State.take
  split
  · exact .of_eq rfl rfl rfl rfl rfl rfl
  dsimp only
  split
  · exact .of_eq rfl rfl rfl rfl rfl rfl
  · exact .trans (by exact .of_eq rfl rfl rfl rfl rfl rfl) (.arbitrate _)

theorem State.Ledger.congr (h : s.Ledger) (hw : t.TablesFormed) (k : s.SameBooks t) : t.Ledger :=
  h.same hw k.cards k.merchants (by rw [k.hold]) (by rw [k.hold]) (by rw [k.hold])

end

end Sys2Proof.Machine

namespace Sys2Proof.Machine

/-! ## The work of requests on the books -/

section
variable {s t : State} {slot : Nat} {c : Card} {e : Hold}

theorem State.Ledger.of_books (h : s.Ledger) (hb : t.Books) (hh : t.hold = s.hold) : t.Ledger := ⟨hb, hh ▸ h.agrees⟩

theorem State.listed_of_active {i : Nat} (h : (s.merchant i).state = .active) : s.Listed i := by
  unfold State.Listed
  rw [h]
  nofun

theorem exists_of_valueWhere {p : LotKey → Bool} {lots : List Lot} (h : valueWhere p lots ≠ 0) : ∃ l ∈ lots, p l.key = true := by
  obtain ⟨l, hl⟩ := List.exists_mem_of_ne_nil _ (fun e : lots.filter (fun l => p l.key) = [] => h (by simp [valueWhere, e, lotsValue]))
  exact ⟨l, (List.mem_filter.mp hl).1, (List.mem_filter.mp hl).2⟩

/-- Postings that only add to the accounts, within what a card can have. -/
theorem State.total_gained (hw : tableWfD Merchant.unlisted s.merchants) {acc : Account} {ps : List Posting}
    (hd : ∀ x ∈ ps, acc.down x = 0) (hb : s.total acc ≤ 131072000000) (hu : acc.ups ps ≤ 1000000) :
    (s.postAll ps).total acc = s.total acc + acc.ups ps :=
  State.total_postAll_ups hw hd (Nat.lt_of_le_of_lt (Nat.add_le_add hb hu) (by decide))

/-! ### Cards -/

theorem promoSponsor_of_issue {key : LotKey} {p i : Nat} {q : Option PromoIssue} (hk : key.kind = .paid)
    (h : valueWhere (Account.sponsor i).keys (issueLots key p q) ≠ 0) : ∃ x, q = some x ∧ x.sponsor = i := by
  obtain ⟨l, hl, hp⟩ := exists_of_valueWhere h
  have hpaid : (Account.sponsor i).keys key = false := by simp [Account.keys, hk]
  unfold issueLots at hl
  rcases List.mem_append.mp hl with hl | hl
  · cases q with
    | none => cases hl
    | some x =>
      obtain rfl := List.mem_singleton.mp hl
      exact ⟨x, rfl, by simpa [Account.keys, promoKey] using hp⟩
  · split at hl
    · cases hl
    · obtain rfl := List.mem_singleton.mp hl
      rw [hpaid] at hp
      cases hp

theorem State.Books.issue (h : s.Books) {n m p : Nat} {q : Option PromoIssue} (range : issueInRange s.clock.day m p q = true)
    (active : s.Listed m) (sponsor : ∀ x, q = some x → s.Listed x.sponsor) (new : tableFind s.cards.directory n = none)
    (free : tableLowestFree s.cards.slots 0 < Config.cardSlots) (limit : p + promoAmount q ≤ 1000000) :
    ((s.insertCard (tableLowestFree s.cards.slots 0) (issuedCard s n p q)).postAll (issuePostings m p q)).Books := by
  have hv : lotsValue (issuedCard s n p q).lots ≤ 1000000 := (issueLots_value _ p q).trans_le limit
  rw [State.insertCard_postAll]
  refine h.insertCard free ?_ new (.issue active sponsor) (issueLots_formed _ _ range) (issueLots_keysFormed range) hv
    (fun i hi => ?_) (fun acc => ?_) (fun key => heldUnder_issue key _ p q) rfl
  · exact (tableLowestFree_spec h.tables.slots fun e _ => Nat.zero_le e.1).2.1
  · obtain ⟨x, hx, rfl⟩ := promoSponsor_of_issue rfl hi
    exact sponsor x hx
  · have hu := acc.issue_ups m p q s.cfg.paidExpiryDays s.clock.day
    rw [State.total_gained h.tables.merchants (acc.issue_noDowns m p q) (h.balanced.below h.stock h.tables acc)
      (hu.trans_le ((valueWhere_le _ _).trans hv)), hu]

/-- An accepted LOAD or REFUND: value comes under a key. -/
theorem State.Books.credit (h : s.Books) (hc : s.cardAt slot = some c) {key : LotKey} {a : Nat} {qs : List Posting}
    (hk : key.Formed) (ha : 0 < a) (room : lotsFull key (expireLots s.today c.lots) = false)
    (limit : lotsValue (expireLots s.today c.lots) + a ≤ 1000000) (hq : TargetsIn s.Listed qs)
    (hd : ∀ acc : Account, ∀ x ∈ qs, acc.down x = 0) (hu : ∀ acc : Account, acc.ups qs = if acc.keys key then a else 0)
    (hs : ∀ i, (Account.sponsor i).keys key = true → s.Listed i) :
    (((s.expiryPosted c).putCard slot (creditedCard s c key a)).postAll qs).Books := by
  have hlots := expireLots_formed s.today c.lots (h.stock.cardLots hc)
  have hval := fun p => valueWhere_credit p key a hlots.distinct
  rw [State.putCard_postAll, ← State.postAll_append]
  refine h.putCard hc rfl (.append (h.stock.lotsListed hc) hq) (creditLots_formed hlots ha room)
    (((h.stock.cardKeys hc).expire s.today).credit hk a) ?_ (fun i hi => ?_) (fun acc => ?_) (fun k => ?_) rfl
  · have := hval fun _ => true
    rw [← lotsValue_eq, ← lotsValue_eq, if_pos rfl] at this
    exact this.trans_le limit
  · by_cases hki : (Account.sponsor i).keys key = true
    · exact .inr (hs i hki)
    · have hz : valueWhere (Account.sponsor i).keys (creditLots key a (expireLots s.today c.lots)) =
        valueWhere (Account.sponsor i).keys (expireLots s.today c.lots) := by rw [hval, if_neg hki, Nat.add_zero]
      have := valueWhere_expire_le (Account.sponsor i).keys s.today c.lots
      exact .inl fun h0 => hi (hz.trans (by omega))
  · have htaken : (s.expiryPosted c).total acc + valueWhere acc.keys c.lots =
        s.total acc + valueWhere acc.keys (expireLots s.today c.lots) :=
      h.balanced.taken h.stock h.tables hc (fun acc => acc.lots_noUps s.today c.lots)
        (fun acc => acc.lots_downs s.today (h.stock.cardKeys hc)) acc
    have hb := h.balanced.below h.stock h.tables acc
    have hlost := valueWhere_expire_le acc.keys s.today c.lots
    have hposted : (s.expiryPosted c).total acc ≤ 131072000000 := by omega
    have hgain : (((s.expiryPosted c)).postAll qs).total acc = (s.expiryPosted c).total acc + acc.ups qs :=
      State.total_gained (s.postAll_kept _ h.tables.merchants).1 (hd acc) hposted (by rw [hu]; split <;> omega)
    rw [State.postAll_append, hgain, hu acc]
    have := hval acc.keys
    dsimp only
    omega
  · exact (heldUnder_credit k key a _).trans (heldUnder_expire k s.today c.lots)

/-- A card rewritten after its expiry, with its lots and holds. -/
theorem State.Books.restate (h : s.Books) (hc : s.cardAt slot = some c) (st : CardState) :
    ((s.expiryPosted c).putCard slot { c with lots := expireLots s.today c.lots, state := st }).Books := by
  refine h.putCard hc rfl (h.stock.lotsListed hc) (expireLots_formed _ _ (h.stock.cardLots hc))
    ((h.stock.cardKeys hc).expire _) ((lotsValue_expire_le _ _).trans (h.stock.cardValue hc)) (fun i hi => .inl fun hz => hi ?_)
    (h.balanced.taken h.stock h.tables hc (fun acc => acc.lots_noUps s.today c.lots)
      fun acc => acc.lots_downs s.today (h.stock.cardKeys hc)) (fun key => heldUnder_expire key _ _) rfl
  exact Nat.le_zero.mp (hz ▸ valueWhere_expire_le (Account.sponsor i).keys s.today c.lots)

theorem State.Books.rename (h : s.Books) (hc : s.cardAt slot = some c) {o n : Nat} (ho : o = c.number)
    (hn : tableFind s.cards.directory n = none) (st : CardState) : ((s.expiryPosted c).renameCard slot o
      { c with lots := expireLots s.today c.lots, number := n, state := st }).Books := by
  refine h.renameCard hc ho hn (h.stock.lotsListed hc) (expireLots_formed _ _ (h.stock.cardLots hc))
    ((h.stock.cardKeys hc).expire _) ((lotsValue_expire_le _ _).trans (h.stock.cardValue hc)) (fun i hi hz => hi ?_)
    (h.balanced.taken h.stock h.tables hc (fun acc => acc.lots_noUps s.today c.lots)
      fun acc => acc.lots_downs s.today (h.stock.cardKeys hc)) (fun key => heldUnder_expire key _ _) rfl
  exact Nat.le_zero.mp (hz ▸ valueWhere_expire_le (Account.sponsor i).keys s.today c.lots)

/-- A card without holds has nothing held. -/
theorem State.Books.none_held (h : s.Books) (hc : s.cardAt slot = some c) (ho : c.openHolds = 0) : ∀ l ∈ c.lots, l.held = 0 :=
  fun l hl => by
    have hcar := h.reserved.cards _ _ hc
    rw [← heldUnder_of_mem (h.stock.cardLots hc).distinct hl, hcar.1, hcar.none_held ho]
    rfl

/-- A card without holds, of which nothing is left but expired lots, has no value after its expiry. -/
theorem State.Books.spent (h : s.Books) (hc : s.cardAt slot = some c) (ho : c.openHolds = 0)
    (hs : ∀ l ∈ expireLots s.today c.lots, l.available = 0) : expireLots s.today c.lots = [] := by
  refine List.eq_nil_iff_forall_not_mem.mpr fun l hl => ?_
  have hv := (expireLots_formed s.today c.lots (h.stock.cardLots hc)).valued l hl
  have hheld : l.held = 0 := by
    obtain ⟨x, hx, rfl⟩ := List.mem_map.mp (List.mem_filter.mp hl).1
    rw [expireLot_held]
    exact h.none_held hc ho x hx
  have := hs l hl
  omega

theorem State.Books.retire (h : s.Books) (hc : s.cardAt slot = some c) {n : Nat} (hn : n = c.number) (ho : c.openHolds = 0)
    (hs : expireLots s.today c.lots = []) : ((s.expiryPosted c).retireCard slot n).Books := by
  refine h.retireCard hc hn (h.stock.lotsListed hc) (fun acc => ?_) ho
  exact h.balanced.taken h.stock h.tables hc (lots := []) (fun acc => acc.lots_noUps s.today c.lots)
    (fun acc => hs ▸ acc.lots_downs s.today (h.stock.cardKeys hc)) acc

/-- An accepted SALE. -/
theorem State.Books.sale (h : s.Books) (hc : s.cardAt slot = some c) {m a : Nat} (hm : s.Listed m) :
    (((s.expiryPosted c).putCard slot { c with
        lots := dropEmpty (drawLots a (expireLots s.today c.lots)), lastActivity := s.clock.day }).postAll
      ((saleParts a (expireLots s.today c.lots)).flatMap (PartEnd.postings s.today) ++ capturePostings m a)).Books := by
  have hlots := expireLots_formed s.today c.lots (h.stock.cardLots hc)
  have hkeys := (h.stock.cardKeys hc).expire s.today
  have hsub : ∀ p ∈ saleParts a (expireLots s.today c.lots), p.key ∈ (expireLots s.today c.lots).map (·.key) := fun p hp =>
    (saleParts_keys _ _).subset (List.mem_map_of_mem hp)
  have hdraw := fun p => valueWhere_draw p a (expireLots s.today c.lots)
  have hval : ∀ p, valueWhere p (dropEmpty (drawLots a (expireLots s.today c.lots))) ≤ valueWhere p c.lots := fun p => by
    have := hdraw p
    have := valueWhere_expire_le p s.today c.lots
    rw [valueWhere_dropEmpty]
    omega
  rw [State.putCard_postAll, ← State.postAll_append]
  refine h.putCard hc rfl
    (.append (h.stock.lotsListed hc) (.append (h.stock.partsListed hc fun p hp _ => ?_) (.capture fun _ => hm)))
    (drawLots_formed a hlots) (hkeys.of_keys ?_) ?_ (fun i hi => .inl fun hz => hi (Nat.le_zero.mp (hz ▸ hval _)))
    (h.balanced.taken h.stock h.tables hc (fun acc => ?_) fun acc => ?_) (fun key => ?_) rfl
  · exact (expireLots_keys s.today c.lots).subset (hsub p hp)
  · exact drawLots_keys a (expireLots s.today c.lots) ▸ (dropEmpty_keys (drawLots a (expireLots s.today c.lots))).subset
  · rw [lotsValue_eq]
    exact (hval _).trans (lotsValue_eq c.lots ▸ h.stock.cardValue hc)
  · exact .append acc (acc.lots_noUps _ _) (.append acc (acc.parts_noUps _ _) (acc.capture_noUps m a))
  · have hl := acc.lots_downs s.today (h.stock.cardKeys hc)
    have hp := acc.parts_downs s.today fun p hp _ => hkeys.part (hsub p hp)
    have hsale : ((saleParts a (expireLots s.today c.lots)).map (fun p => if acc.keys p.key then p.expired s.today + p.taken else 0)) =
        (partsOf a (expireLots s.today c.lots)).map (fun q => if acc.keys q.key then q.cents else 0) := by
      simp [saleParts, PartEnd.expired, Function.comp_def]
    have := hdraw acc.keys
    rw [Account.downs_append, Account.downs_append, acc.capture_downs, hp, hsale, valueWhere_dropEmpty]
    omega
  · rw [heldUnder_dropEmpty, heldUnder_draw, heldUnder_expire]

/-- The postings of a capture move no account. -/
theorem State.Books.capture (h : s.Books) {m a : Nat} (hm : a ≠ 0 → s.Listed m) : (s.postAll (capturePostings m a)).Books :=
  h.postAll (.capture hm) (fun acc => acc.capture_noUps m a) fun acc => acc.capture_downs m a

theorem State.Ledger.capture (h : s.Ledger) {m a : Nat} (hm : a ≠ 0 → s.Listed m) : (s.postAll (capturePostings m a)).Ledger :=
  h.of_books (h.books.capture hm) (s.postAll_hold _)

/-! ### Each effect -/

theorem State.Ledger.number (h : s.Ledger) {n : Nat} (hf : s.lookup n = some (slot, c)) : n = c.number := by
  obtain ⟨d, hd, hn⟩ := (h.books.balanced.named n slot).mp (State.directory_of_lookup hf)
  rw [State.cardAt_of_lookup hf] at hd
  rw [Option.some.inj hd, hn]

theorem State.Ledger.basketEnded (h : s.Ledger) {n taken : Nat} {b : Basket} {ends : List (Hold × Nat)}
    (found : s.hold.openBasket n = some b) (members : ends.map (·.1) = s.hold.memberHolds b.members)
    (covered : taken ≤ amountsOf (s.hold.memberHolds b.members)) :
    (((s.endHolds ends).freeBasket n).postAll (capturePostings b.merchant taken)).Ledger := by
  obtain ⟨hb, rfl, ho⟩ := openBasket_spec found
  refine (h.endBasket hb ho members).capture fun hn => ?_
  have hne : s.hold.memberHolds b.members ≠ [] := fun e => hn (Nat.le_zero.mp (by simpa [e, amountsOf] using covered))
  obtain ⟨x, hx⟩ := List.exists_mem_of_ne_nil _ hne
  obtain ⟨hmem, hj⟩ := (h.agrees.mem_members hb).mp hx
  have hlisted := h.books.reserved.listedAt x hmem
  have hstate : (((s.endHolds ends).freeBasket b.number).merchant b.merchant).state = (s.merchant b.merchant).state :=
    State.endHolds_state h.books.tables b.merchant
  unfold State.Listed at hlisted ⊢
  rw [hstate, ← (h.agrees.same x hmem b hb hj).2]
  exact hlisted

theorem State.Ledger.openBasket (h : s.Ledger) {b : Basket} (hn : b.number = s.hold.nextBasket) (ho : b.state = .opened)
    (hm : b.members = []) (places : s.hold.baskets.length < Config.basketEntries) (serial : Nat) :
    ({ s with hold := { s.hold with baskets := s.hold.baskets ++ [b], basketSerial := serial } } : State).Ledger := by
  refine ⟨h.books.same (h.books.tables.kept.withHold ⟨False.elim, False.elim⟩).formed rfl rfl rfl,
    h.agrees.addBasket serial (hn ▸ HoldTable.nextBasket_fresh places) ho hm⟩

theorem State.Ledger.authorize (h : s.Ledger) {m t a : Nat} {minutes basket : Option Nat} (hc : s.cardAt slot = some c)
    (hm : s.Listed m) (places : s.hold.holds.length < Config.holdEntries)
    (join : ∀ k, basket = some k → ∃ b, s.hold.openBasket k = some b ∧ b.merchant = m ∧
      b.members.length < Config.basketMembers)
    (positive : 0 < a) (covered : a ≤ lotsAvailable (expireLots s.today c.lots)) :
    (s.authorized slot m a c (newHold s slot m t a c minutes basket)).Ledger := by
  refine ⟨h.books.authorize hc rfl rfl hm rfl rfl positive covered,
    h.agrees.addHold (HoldTable.nextHold_fresh places.le) rfl fun n hn => ?_⟩
  obtain ⟨b, hb, hbm, -⟩ := join n hn
  obtain ⟨hmem, hbn, hbo⟩ := openBasket_spec hb
  exact ⟨b, hmem, hbn, hbo, hbm⟩

theorem State.Ledger.listMerchant (h : s.Ledger) {i : Nat} {st : MerchantState} {sc al pr : Nat} (listed : st ≠ .unlisted)
    (operator : i = 0 → st = .active) : (s.setMerchant i (if (s.merchant i).state = .unlisted then
      listedMerchant i st sc al pr else updatedMerchant i st sc al pr (s.merchant i))).Ledger := by
  refine h.of_books ?_ rfl
  split
  · next hu =>
    obtain ⟨hs, ho⟩ := h.books.unlisted hu
    exact h.books.setMerchant hs.symm ho.symm (fun e => absurd e listed) operator
  · exact h.books.setMerchant rfl rfl (fun e => absurd e listed) operator

theorem State.Ledger.effect (h : s.Ledger) (hr : s.store.state = .ready) (hlim : s.cfg.cardLimit ≤ 1000000)
    (k : Effect s t) : t.Ledger := by
  have hw : t.TablesFormed := (h.books.tables.kept.effect k).formed
  have card : ∀ {n slot c}, s.lookup n = some (slot, c) → s.cardAt slot = some c := State.cardAt_of_lookup
  cases k
  case issued _ _ hrange hm hq hnew hslot hlimit =>
    refine h.of_books (h.books.issue hrange (State.listed_of_active hm) (fun x hx => State.listed_of_active (hq x hx)) hnew hslot
      (hlimit.trans hlim)) (State.postAll_hold _ _)
  case loaded m a slot q c _ hrange hm hq hf hlimit hroom =>
    refine h.of_books (h.books.credit (card hf) (loadKey_formed hrange) (loadInRange_spec hrange).2.1.1 hroom (hlimit.trans hlim)
      (.load (State.listed_of_active hm) fun x hx => State.listed_of_active (hq x hx)) (fun acc => acc.load_noDowns m a q)
      (fun acc => acc.load_ups m a q _ _) fun i hi => ?_) ((State.postAll_hold _ _).trans (State.postAll_hold s _))
    cases q with
    | none => simp [Account.keys, loadKey, paidKey] at hi
    | some x =>
      have hx : x.sponsor = i := by simpa [Account.keys, loadKey, promoKey] using hi
      exact hx ▸ State.listed_of_active (hq x rfl)
  case refunded m a slot c _ _ hrange hm hf hlimit hroom =>
    exact h.of_books (h.books.credit (card hf) (paidKey_formed _ _) (amountInRange_iff.mp hrange).1 hroom (hlimit.trans hlim)
      (by simpa [TargetsIn, Posting.target] using hm) (fun acc => acc.refund_noDowns m a)
      (fun acc => acc.refund_ups m a _ _) fun i hi => by simp [Account.keys, paidKey] at hi)
      ((State.postAll_hold _ _).trans (State.postAll_hold s _))
  case restated st _ hf => exact h.of_books (h.books.restate (card hf) st) (State.postAll_hold s _)
  case retired _ hf hspent hfree =>
    exact h.of_books (h.books.retire (card hf) (h.number hf) hfree (h.books.spent (card hf) hfree hspent)) (State.postAll_hold s _)
  case replaced _ hf _ hnew _ =>
    exact h.of_books (h.books.rename (card hf) (h.number hf) hnew .active) (State.postAll_hold s _)
  case authorized _ _ hm hf hplaces _ hjoin hpos hcov =>
    exact h.authorize (card hf) (State.listed_of_active hm) hplaces hjoin hpos hcov
  case captured taken e _ hf =>
    obtain ⟨he, -, ho⟩ := openHold_spec hf
    refine (h.endOpen he ho taken).capture fun _ => ?_
    unfold State.Listed
    rw [State.endHold_state h.books.tables]
    exact h.books.reserved.listedAt e he
  case sold _ _ hm hf _ =>
    exact h.of_books (h.books.sale (card hf) (State.listed_of_active hm)) ((State.postAll_hold _ _).trans (State.postAll_hold s _))
  case basketOpened hplaces => exact h.openBasket rfl rfl rfl hplaces _
  case basketEnded _ hf hm hcov => exact h.basketEnded hf hm hcov
  case terminalCleared => exact h.clearTerminal _ _
  case merchantListed _ _ hl h0 => exact h.listMerchant hl h0
  case merchantRemoved _ _ hother hholds hpos hspon =>
    exact h.of_books (h.books.setMerchant hspon.symm hholds.symm (fun _ => ⟨rfl, rfl, rfl⟩) fun e => absurd e hother) rfl
  case cutRequested => exact h.congr hw (.requestCut s)
  case queueRead => exact h.congr hw (.readQueue s)
  case clockSet => exact h.congr hw (.trans (.takeRoll s) (.of_eq rfl rfl rfl rfl rfl rfl))
  case passStarted => exact h.congr hw (.startPass s)
  case formatted hu | formattedReady hu =>
    rw [hr] at hu
    cases hu
  all_goals exact h.same hw rfl rfl rfl rfl rfl

end

end Sys2Proof.Machine

namespace Sys2Proof.Machine

/-! ## The laws in every store state -/

/-- What keeps the laws: the card limit, the serial counters, no hold before the store is READY, no holder once PARKED. -/
structure State.Fence (s : State) : Prop where
  limit : s.settings.cardLimit ≤ 1000000
  holdSerial : 1 ≤ s.hold.holdSerial ∧ s.hold.holdSerial ≤ Config.serialMax
  basketSerial : 1 ≤ s.hold.basketSerial ∧ s.hold.basketSerial ≤ Config.serialMax
  before : s.store.state = .mounting ∨ s.store.state = .unformatted →
    s.hold.holds = [] ∧ s.hold.baskets = [] ∧ s.hold.lapse = []
  parked : s.store.state = .parked → s.arbiter.holder = none

/-- The laws on cards, value and holds (`State.LawsKept`), in the parts that each change keeps. -/
structure State.Lawful (s : State) : Prop where
  tables : s.TablesFormed
  stock : s.Stock
  fence : s.Fence
  ledger : s.store.state = .ready → s.Ledger

section
variable {s t u : State}

theorem State.Fence.same (h : s.Fence) (k : s.SameBooks t) : t.Fence := by
  obtain ⟨-, -, hh, hs, hst, ha⟩ := k
  refine ⟨hs ▸ h.limit, ?_, ?_, fun hb => ?_, fun hp => ha (hst ▸ hp) (h.parked (hst ▸ hp))⟩
  · rw [hh]; exact h.holdSerial
  · rw [hh]; exact h.basketSerial
  · rw [hst] at hb
    rw [hh]; exact h.before hb

/-- Of a READY store only the card limit and the serial counters are asked. -/
theorem State.Fence.of_ready (hr : t.store.state = .ready) (hlimit : t.settings.cardLimit ≤ 1000000)
    (hhold : 1 ≤ t.hold.holdSerial ∧ t.hold.holdSerial ≤ Config.serialMax)
    (hbasket : 1 ≤ t.hold.basketSerial ∧ t.hold.basketSerial ≤ Config.serialMax) : t.Fence := by
  refine ⟨hlimit, hhold, hbasket, ?_, ?_⟩
  · rw [hr]; rintro (hb | hb) <;> cases hb
  · rw [hr]; nofun

theorem State.Lawful.same (h : s.Lawful) (hw : t.TablesFormed) (k : s.SameBooks t) : t.Lawful :=
  ⟨hw, h.stock.same k.cards k.merchants, h.fence.same k, fun hr => (h.ledger (k.store ▸ hr)).congr hw k⟩

theorem defaultLimit : Settings.default.cardLimit ≤ 1000000 := by decide

/-- The settings in force keep the card limit (R196). -/
theorem State.Fence.cfg (h : s.Fence) : s.cfg.cardLimit ≤ 1000000 := by
  unfold State.cfg
  split
  · exact h.limit
  · exact defaultLimit

/-! ### The work of requests -/

/-- The store, the settings and the serial counters are the same. -/
structure State.SameFence (s t : State) : Prop where
  store : t.store = s.store
  settings : t.settings = s.settings
  holdSerial : t.hold.holdSerial = s.hold.holdSerial
  basketSerial : t.hold.basketSerial = s.hold.basketSerial

theorem State.SameFence.trans (h : s.SameFence t) (k : t.SameFence u) : s.SameFence u :=
  ⟨k.store.trans h.store, k.settings.trans h.settings, k.holdSerial.trans h.holdSerial, k.basketSerial.trans h.basketSerial⟩

theorem State.SameFence.postAll (s : State) (ps : List Posting) : s.SameFence (s.postAll ps) := by
  rw [(s.postAll_money ps).eq]
  exact ⟨rfl, rfl, rfl, rfl⟩

theorem State.SameFence.endHold (s : State) (e : Hold) (taken : Nat) : s.SameFence (s.endHold e taken) := by
  have k := s.endHold_only e taken
  have hs : (s.endHold e taken).store = s.store := by rw [k]
  have hset : (s.endHold e taken).settings = s.settings := by rw [k]
  exact ⟨hs, hset, by rw [State.endHold_hold]; rfl, by rw [State.endHold_hold]; rfl⟩

theorem State.SameFence.endHolds (s : State) (ends : List (Hold × Nat)) : s.SameFence (s.endHolds ends) := by
  induction ends generalizing s with
  | nil => exact ⟨rfl, rfl, rfl, rfl⟩
  | cons x rest ih => exact (State.SameFence.endHold s x.1 x.2).trans (ih _)

theorem State.SameFence.clearBaskets (s : State) (m n : Nat) : s.SameFence (s.clearBaskets m n) := by
  unfold State.clearBaskets
  generalize s.hold.terminalBaskets m n = bs
  induction bs generalizing s with
  | nil => exact ⟨rfl, rfl, rfl, rfl⟩
  | cons b rest ih =>
    have hb : s.SameFence (s.releaseBasket b) := (State.SameFence.endHolds s _).trans ⟨rfl, rfl, rfl, rfl⟩
    exact hb.trans (ih _)

/-- The work of a request in READY, where it keeps the store READY and the settings. -/
theorem State.Lawful.ready (h : s.Lawful) (hr : s.store.state = .ready) (k : Effect s t) (hst : t.store = s.store)
    (hset : t.settings = s.settings) (hhold : 1 ≤ t.hold.holdSerial ∧ t.hold.holdSerial ≤ Config.serialMax)
    (hbasket : 1 ≤ t.hold.basketSerial ∧ t.hold.basketSerial ≤ Config.serialMax) : t.Lawful := by
  have hl := (h.ledger hr).effect hr h.fence.cfg k
  have htr : t.store.state = .ready := by rw [hst]; exact hr
  exact ⟨hl.books.tables, hl.books.stock, .of_ready htr (hset ▸ h.fence.limit) hhold hbasket, fun _ => hl⟩

/-- In READY, the books kept by a change that leaves the store, the settings and the serial counters. -/
theorem State.Lawful.of_ledger (h : s.Lawful) (hr : s.store.state = .ready) (hl : t.Ledger) (f : s.SameFence t) : t.Lawful := by
  have htr : t.store.state = .ready := by rw [f.store]; exact hr
  refine ⟨hl.books.tables, hl.books.stock, .of_ready htr (f.settings ▸ h.fence.limit) ?_ ?_, fun _ => hl⟩
  · rw [f.holdSerial]; exact h.fence.holdSerial
  · rw [f.basketSerial]; exact h.fence.basketSerial

theorem State.Lawful.readySame (h : s.Lawful) (hr : s.store.state = .ready) (k : Effect s t) (f : s.SameFence t) : t.Lawful :=
  h.of_ledger hr ((h.ledger hr).effect hr h.fence.cfg k) f

theorem clampOr_le {old lo hi : Nat} {f : Option Nat} (ho : old ≤ hi) (hl : lo ≤ hi) : clampOr old lo hi f ≤ hi := by
  unfold clampOr
  split
  · exact ho
  · split
    · exact hl
    · split <;> omega

theorem State.formatted_merchant (s : State) (i : Nat) : s.formatted.merchant i = if i = 0 then Merchant.operator else Merchant.unlisted := by
  unfold State.merchant State.formatted tableGet
  by_cases hi : i = 0
  · simp [hi, tableFind]
  · simp [hi, tableFind, Ne.symm hi]

/-- What FORMAT writes, with no hold standing (R182). -/
theorem State.Stock.formatted (s : State) : s.formatted.Stock := by
  refine ⟨nofun, nofun, nofun, fun i j c d hc => ?_, ?_, fun i hi => absurd rfl hi, fun i hi => ?_⟩
  · cases hc
  · rw [State.formatted_merchant]; rfl
  · rw [State.formatted_merchant] at hi
    split at hi <;> exact absurd rfl hi

theorem State.Ledger.formatted (hw : s.TablesFormed) (hh : s.hold.holds = []) (hb : s.hold.baskets = []) (hl : s.hold.lapse = []) :
    s.formatted.becomeReady.Ledger := by
  have hmer : ∀ i, s.formatted.becomeReady.merchant i = if i = 0 then Merchant.operator else Merchant.unlisted :=
    fun i => s.formatted_merchant i
  have zero : ∀ i, (s.formatted.becomeReady.merchant i).sponsored = 0 ∧ (s.formatted.becomeReady.merchant i).openHolds = 0 :=
    fun i => by
      rw [hmer]
      split <;> exact ⟨rfl, rfl⟩
  have none_at : ∀ k, k ∉ s.formatted.becomeReady.hold.holds := fun k hk => by
    have : k ∈ s.hold.holds := hk
    rw [hh] at this
    cases this
  refine ⟨⟨hw.kept.formatted.becomeReady.formed, (State.Stock.formatted s).same rfl rfl, ⟨fun n j => ?_, fun acc => ?_⟩,
    ⟨fun j c hc => ?_, fun i => ?_, fun k hk => absurd hk (none_at k), fun k hk => absurd hk (none_at k),
      fun k hk => absurd hk (none_at k)⟩⟩, .empty hh hb hl⟩
  · exact ⟨nofun, fun ⟨c, hc, _⟩ => nomatch hc⟩
  · cases acc with
    | paid => rfl
    | promo => rfl
    | sponsor i => exact (zero i).1
  · cases hc
  · rw [(zero i).2]
    have : s.formatted.becomeReady.hold.atMerchant i = [] := by
      show s.hold.holds.filter _ = []
      rw [hh]
      rfl
    rw [this]
    rfl

theorem State.Lawful.effect (h : s.Lawful) (k : Effect s t) : t.Lawful := by
  have hw : t.TablesFormed := (h.tables.kept.effect k).formed
  have pp : ∀ (ps : List Posting) (slot : Nat) (d : Card) (qs : List Posting),
      s.SameFence (((s.postAll ps).putCard slot d).postAll qs) := fun ps slot d qs =>
    (State.SameFence.postAll s ps).trans (.trans (t := (s.postAll ps).putCard slot d) ⟨rfl, rfl, rfl, rfl⟩ (.postAll _ qs))
  have k' := k
  cases k
  case nothing => exact h
  case issued hr _ _ _ _ _ _ _ =>
    exact h.readySame hr k' (.trans (t := s.insertCard _ _) ⟨rfl, rfl, rfl, rfl⟩ (.postAll _ _))
  case loaded hr _ _ _ _ _ _ => exact h.readySame hr k' (pp _ _ _ _)
  case refunded hr _ _ _ _ _ _ => exact h.readySame hr k' (pp _ _ _ _)
  case sold hr _ _ _ _ => exact h.readySame hr k' (pp _ _ _ _)
  case restated st hr _ => exact h.readySame hr k' ((State.SameFence.postAll s _).trans ⟨rfl, rfl, rfl, rfl⟩)
  case retired hr _ _ _ => exact h.readySame hr k' ((State.SameFence.postAll s _).trans ⟨rfl, rfl, rfl, rfl⟩)
  case replaced hr _ _ _ _ => exact h.readySame hr k' ((State.SameFence.postAll s _).trans ⟨rfl, rfl, rfl, rfl⟩)
  case authorized c _ _ hr _ _ _ _ _ _ _ _ =>
    have hp := State.SameFence.postAll s (lotsPostings s.today c.lots)
    exact h.ready hr k' hp.store hp.settings bumpSerial_range h.fence.basketSerial
  case captured hr _ => exact h.readySame hr k' ((State.SameFence.endHold s _ _).trans (.postAll _ _))
  case basketOpened hr _ _ => exact h.ready hr k' rfl rfl h.fence.holdSerial bumpSerial_range
  case basketEnded n _ b ends hr _ _ _ =>
    exact h.readySame hr k' ((State.SameFence.endHolds s ends).trans (.trans (t := (s.endHolds ends).freeBasket n)
      ⟨rfl, rfl, rfl, rfl⟩ (.postAll _ _)))
  case terminalCleared m n hr =>
    exact h.readySame hr k' ((State.SameFence.clearBaskets s m n).trans (.endHolds _ _))
  case merchantListed hr _ _ _ => exact h.readySame hr k' ⟨rfl, rfl, rfl, rfl⟩
  case merchantRemoved hr _ _ _ _ _ => exact h.readySame hr k' ⟨rfl, rfl, rfl, rfl⟩
  case cutRequested => exact h.same hw (.requestCut s)
  case queueRead => exact h.same hw (.readQueue s)
  case clockSet => exact h.same hw (.trans (.takeRoll s) (.of_eq rfl rfl rfl rfl rfl rfl))
  case passStarted => exact h.same hw (.startPass s)
  case configured f =>
    have hl : (s.settings.after f).cardLimit ≤ 1000000 := clampOr_le h.fence.limit (by decide)
    exact ⟨hw, h.stock.same rfl rfl, ⟨hl, h.fence.holdSerial, h.fence.basketSerial, h.fence.before, h.fence.parked⟩,
      fun hr => (h.ledger hr).same hw rfl rfl rfl rfl rfl⟩
  case formatted hu =>
    refine ⟨hw, .formatted s, ⟨defaultLimit, h.fence.holdSerial, h.fence.basketSerial, h.fence.before, h.fence.parked⟩, fun hr => ?_⟩
    have hr : s.store.state = .ready := hr
    rw [hu] at hr
    cases hr
  case formattedReady hu =>
    obtain ⟨hh, hb, hl⟩ := h.fence.before (.inr hu)
    have hled := State.Ledger.formatted h.tables hh hb hl
    exact ⟨hw, hled.books.stock, .of_ready rfl defaultLimit h.fence.holdSerial h.fence.basketSerial, fun _ => hled⟩
  all_goals exact h.same hw (.of_eq rfl rfl rfl rfl rfl rfl)

theorem State.Lawful.workOf (h : s.Lawful) {f : Frame} {w : Reply × State} (hw : WorkOf f s w) : w.2.Lawful := by
  rcases hw with e | ⟨q, -, rfl⟩
  · exact e ▸ h
  · obtain ⟨v, hv, he⟩ := q.work_effect s
    have hsame : s.SameBooks v := by
      rw [hv.eq]
      exact .of_eq rfl rfl rfl rfl rfl rfl
    exact (h.same (h.tables.kept.flags hv).formed hsame).effect he

end

end Sys2Proof.Machine

namespace Sys2Proof.Machine

/-! ## The laws through the mount -/

section
variable {s t : State}

theorem State.Stock.mountCard (h : s.Stock) (hw : tableWf s.cards.slots) (slot : Nat) : (s.mountCard slot).Stock := by
  unfold State.mountCard
  split
  · exact h
  · next c hc =>
    have hl := restored_formed (h.cardLots hc)
    have hk : KeysFormed (c.lots.map Lot.restored) := (h.cardKeys hc).of_keys (by rw [restored_keys]; exact List.Subset.refl _)
    have hv : lotsValue (c.lots.map Lot.restored) ≤ 1000000 := (lotsValue_restored c.lots).trans_le (h.cardValue hc)
    have hput : (s.putCard slot { c with lots := c.lots.map Lot.restored, openHolds := 0 }).Stock :=
      h.putCard hw hc rfl hl hk hv fun i hi => .inl ((valueWhere_restored _ c.lots).symm.trans_ne hi)
    have hins : (s.insertCard slot { c with lots := c.lots.map Lot.restored, openHolds := 0 }).Stock :=
      hput.congr rfl (fun _ => rfl) fun _ hi => .inl hi
    exact hins.closingCheck (c := { c with lots := c.lots.map Lot.restored, openHolds := 0 }) (tableWf_insert _ _ _ hw)
      (tableFind_insert_self _ _ _) rfl hl hk hv fun i hi => .inl hi

theorem State.Stock.mountCards (slots : List Nat) (h : s.Stock) (hw : tableWf s.cards.slots) :
    (slots.foldl State.mountCard s).Stock := by
  induction slots generalizing s with
  | nil => exact h
  | cons j rest ih => exact ih (h.mountCard hw j) (State.mountCard_slots_wf hw j)

theorem State.Stock.completeMount (h : s.Stock) (hw : s.TablesFormed) : s.completeMount.Stock := by
  have hset : s.mountSettings.Stock := h.congr rfl (fun _ => rfl) fun _ hi => .inl hi
  have hcards : s.cardsMounted.Stock := hset.mountCards _ hw.slots
  have hm : ∀ i, s.cardsMounted.merchant i = s.merchant i := fun i =>
    congrArg (tableGet Merchant.unlisted · i) (State.mountCards_merchants _ s.mountSettings)
  refine hcards.congr s.completeMount_slots (fun i => ?_) fun i hi => .inl ?_
  · rw [State.completeMount_merchant, State.mountAll_merchant hw, hm]
  · rw [State.completeMount_merchant, State.mountAll_merchant hw] at hi
    rw [hm]
    exact hi

/-- The books after a mount that completes, with no hold standing (R180). -/
theorem State.Ledger.completeMount (h : s.Stock) (hw : s.TablesFormed) (hh : s.hold.holds = []) (hb : s.hold.baskets = [])
    (hl : s.hold.lapse = []) : s.completeMount.Ledger := by
  have hhold := s.completeMount_hold
  have none_at : ∀ k, k ∉ s.completeMount.hold.holds := fun k hk => by
    rw [hhold, hh] at hk
    cases hk
  have hof : ∀ j, s.completeMount.holdsOf j = [] := fun j => by
    unfold State.holdsOf
    rw [hhold, hh]
    rfl
  have hmer : ∀ i, s.completeMount.merchant i = { s.merchant i with
      sponsored := min (sponsoredValue i s.allLots) Config.sum48Max, openHolds := 0 } := fun i =>
    (s.completeMount_merchant i).trans (State.mountAll_merchant hw i)
  have hval : ∀ p, valueWhere p s.completeMount.allLots = valueWhere p s.allLots := fun p => by
    have : s.completeMount.allLots = s.mountAll.allLots := by unfold State.allLots; rw [State.completeMount_cards]
    rw [this, State.mountAll_value hw.slots]
  have hmin : ∀ p, min (valueWhere p s.allLots) Config.sum48Max = valueWhere p s.allLots := fun p =>
    Nat.min_eq_left ((State.allLots_below hw h.value p).trans (by decide))
  obtain ⟨hpaid, hpromo⟩ := State.mountAll_totals hw.slots
  refine ⟨⟨hw.kept.completeMount.formed, h.completeMount hw, ⟨fun n j => ?_, fun acc => ?_⟩,
    ⟨fun j d hd => ?_, fun i => ?_, fun k hk => absurd hk (none_at k), fun k hk => absurd hk (none_at k),
      fun k hk => absurd hk (none_at k)⟩⟩, .empty (by rw [hhold]; exact hh) (by rw [hhold]; exact hb) (by rw [hhold]; exact hl)⟩
  · rw [State.completeMount_cards, State.completeMount_cardAt]
    exact State.mountAll_directory hw.slots h.numbers n j
  · rw [hval]
    cases acc with
    | paid =>
      show s.completeMount.cards.paidOutstanding = _
      rw [State.completeMount_cards, hpaid]
      exact hmin Account.paid.keys
    | promo =>
      show s.completeMount.cards.promoOutstanding = _
      rw [State.completeMount_cards, hpromo]
      exact hmin Account.promo.keys
    | sponsor i =>
      show (s.completeMount.merchant i).sponsored = _
      rw [hmer]
      exact hmin (Account.sponsor i).keys
  · rw [State.completeMount_cardAt, State.mountAll_cardAt hw.slots] at hd
    obtain ⟨c, -, hcd⟩ := Option.bind_eq_some_iff.mp hd
    obtain ⟨hlots, hopen⟩ := closedCard_some hcd
    rw [hof]
    exact ⟨fun key => by rw [hlots]; exact heldUnder_restored key c.lots, hopen⟩
  · rw [hmer, HoldTable.atMerchant, hhold, hh]
    rfl

theorem State.Lawful.completeMount (h : s.Lawful) (hm : s.store.state = .mounting) : s.completeMount.Lawful := by
  obtain ⟨hh, hb, hl⟩ := h.fence.before (.inl hm)
  have hled := State.Ledger.completeMount h.stock h.tables hh hb hl
  obtain ⟨-, -, -, hset, -, -⟩ := s.completeMount_rest
  have hhold := s.completeMount_hold
  refine ⟨hled.books.tables, hled.books.stock, .of_ready s.completeMount_ready ?_ ?_ ?_, fun _ => hled⟩
  · rw [hset]; exact h.fence.limit
  · rw [hhold]; exact h.fence.holdSerial
  · rw [hhold]; exact h.fence.basketSerial

theorem State.Stock.mountStep (h : s.Stock) (hw : s.TablesFormed) : s.mountStep.Stock := by
  have keep : ∀ {u : State} (m : MountStage), u.Stock → (u.setMount m).Stock := fun m hu =>
    hu.congr rfl (fun _ => rfl) fun _ hi => .inl hi
  unfold State.mountStep
  split
  · exact keep _ (h.congr rfl (fun _ => rfl) fun _ hi => .inl hi)
  · split
    · exact keep _ (h.mountCard hw.slots _)
    · exact keep _ h
  · refine keep _ (h.congr s.mountTotals_slots (fun i => ?_) fun i hi => .inl ?_)
    · rw [State.mountTotals_merchant hw.merchants]
    · rwa [State.mountTotals_merchant hw.merchants] at hi
  · refine keep _ (h.congr rfl (fun i => ?_) fun i hi => .inl ?_)
    · rw [State.mountMerchants_merchant hw.merchants.1]
    · rwa [State.mountMerchants_merchant hw.merchants.1] at hi
  · exact keep _ (h.same s.mountSnapshot_cards s.mountSnapshot_merchants)
  · exact h

theorem State.mountStep_settings (s : State) : s.mountStep.settings = s.settings := by
  unfold State.mountStep
  split
  · rfl
  · split
    · show (s.mountCard _).settings = _
      rw [State.mountCard_frame]
    · rfl
  · show s.mountTotals.settings = _
    rw [State.mountTotals_frame]
  · rfl
  · unfold State.mountSnapshot
    split <;> rfl
  · rfl

theorem State.Lawful.mountStep (h : s.Lawful) (hm : s.store.state = .mounting) : s.mountStep.Lawful := by
  have hst := s.mountStep_rest.1
  have hhold := s.mountStep_hold
  refine ⟨h.tables.kept.mountStep.formed, h.stock.mountStep h.tables, ⟨s.mountStep_settings ▸ h.fence.limit, ?_, ?_, fun _ => ?_, ?_⟩, ?_⟩
  · rw [hhold]; exact h.fence.holdSerial
  · rw [hhold]; exact h.fence.basketSerial
  · rw [hhold]; exact h.fence.before (.inl hm)
  · rw [hst, hm]; nofun
  · rw [hst, hm]; nofun

/-! ## The laws through cuts, sweeps and minute ticks -/

/-- The records of merchants change, but not what they count of cards and holds. -/
theorem State.Books.records (h : s.Books) (hw : t.TablesFormed) (k : t.Stock) (hc : t.cards = s.cards) (hh : t.hold = s.hold)
    (hm : ∀ i, (t.merchant i).state = (s.merchant i).state ∧ (t.merchant i).sponsored = (s.merchant i).sponsored ∧
      (t.merchant i).openHolds = (s.merchant i).openHolds) : t.Books := by
  refine ⟨hw, k, h.balanced.congr hc fun i => (hm i).2.1, ?_⟩
  refine h.reserved.congr (by rw [hh]) (fun j => by unfold State.cardAt; rw [hc]) (fun i => (hm i).2.2) fun i _ hi => ?_
  unfold State.Listed
  rw [(hm i).1]
  exact hi

/-- A cut sets every position to zero, and leaves what merchants count of cards and holds (R132). -/
theorem State.Lawful.takeCut (h : s.Lawful) : s.takeCut.Lawful := by
  have hw := h.tables.kept.takeCut.formed
  obtain ⟨t, ht, hcut⟩ : ∃ t : State, t = { s with
      period := s.cutPeriod
      merchants := tableMap Merchant.unlisted (fun _ m => m.afterCut) s.merchants
      schedules := tableMap ScheduleEntry.blank (fun _ e => e.afterCut) s.schedules } ∧ t.SameBooks s.takeCut :=
    ⟨_, rfl, (State.SameBooks.raiseIf _ _ _).trans (.deliver _ _)⟩
  have hmer : ∀ i, s.takeCut.merchant i = (s.merchant i).afterCut := fun i => by
    have : s.takeCut.merchant i = t.merchant i := congrArg (tableGet Merchant.unlisted · i) hcut.merchants
    rw [this, ht]
    exact tableGet_map Merchant.unlisted (fun _ m => m.afterCut) h.tables.merchants.1 i rfl
  have hcards : s.takeCut.cards = s.cards := by rw [hcut.cards, ht]
  have hstock : s.takeCut.Stock := h.stock.congr (congrArg CardTable.slots hcards) (fun i => by rw [hmer]; rfl) fun i hi => by
    rw [hmer] at hi
    exact absurd rfl hi
  have hst : s.takeCut.store.state = s.store.state := by rw [hcut.store, ht]
  have hhold : s.takeCut.hold = s.hold := by
    unfold State.takeCut
    rw [State.deliver_hold, State.raiseIf_hold]
  have hfence : t.Fence := by
    rw [ht]
    exact ⟨h.fence.limit, h.fence.holdSerial, h.fence.basketSerial, h.fence.before, h.fence.parked⟩
  refine ⟨hw, hstock, hfence.same hcut, fun hr => ?_⟩
  have hl := h.ledger (hst ▸ hr)
  exact hl.of_books (hl.books.records hw hstock hcards hhold fun i => by rw [hmer]; exact ⟨rfl, rfl, rfl⟩) hhold

theorem State.Lawful.cutWork (h : s.Lawful) : s.cutWork.Lawful := by
  unfold State.cutWork
  split
  · exact h.takeCut
  · have hw : s.deferCut.TablesFormed := by
      have k : ({ s with period := { s.period with cutPending := .deferred } } : State).TablesKept False :=
        h.tables.kept.congr rfl rfl rfl rfl rfl rfl
      exact (k.event (State.deliver_event _ _)).formed
    exact h.same hw (.trans (t := { s with period := { s.period with cutPending := .deferred } }) (.of_eq rfl rfl rfl rfl rfl rfl)
      (.deliver _ _))

theorem State.Stock.visit (h : s.Stock) (hw : s.TablesFormed) (slot : Nat) : (s.visit slot).Stock := by
  unfold State.visit
  split
  · exact h
  · next c hc =>
    have hp := h.postAll hw.merchants (h.lotsListed hc)
    have hslots : tableWf (s.postAll (lotsPostings s.today c.lots)).cards.slots := (s.postAll_slots _).symm ▸ hw.slots
    have hat := (s.postAll_cardAt (lotsPostings s.today c.lots) slot).trans hc
    dsimp only
    split
    · exact hp.retireCard hslots hat _
    · refine hp.putCard hslots hat rfl (expireLots_formed _ _ (h.cardLots hc)) ((h.cardKeys hc).expire _)
        ((lotsValue_expire_le _ _).trans (h.cardValue hc)) fun i hi => .inl fun hz => hi ?_
      exact Nat.le_zero.mp (hz ▸ valueWhere_expire_le (Account.sponsor i).keys s.today c.lots)

/-- A dormant card has no value and no hold (R170). -/
theorem State.dormant_spec {c : Card} (h : s.dormant c = true) : lotsValue c.lots = 0 ∧ c.openHolds = 0 := by
  unfold State.dormant at h
  simp only [Bool.and_eq_true, decide_eq_true_eq] at h
  exact ⟨h.1.1.1.2, h.1.1.2⟩

theorem LotsFormed.eq_nil {lots : List Lot} (h : LotsFormed lots) (hv : lotsValue lots = 0) : lots = [] := by
  refine List.eq_nil_iff_forall_not_mem.mpr fun l hl => ?_
  have := h.valued l hl
  have hle := le_valueWhere (p := fun _ => true) hl rfl
  rw [← lotsValue_eq] at hle
  omega

theorem State.Ledger.visit (h : s.Ledger) (slot : Nat) : (s.visit slot).Ledger := by
  refine h.of_books ?_ (s.visit_hold slot)
  unfold State.visit
  split
  · exact h.books
  · next c hc =>
    dsimp only
    split
    · next hd =>
      obtain ⟨hv, ho⟩ := State.dormant_spec hd
      exact h.books.retire hc rfl ho ((expireLots_formed _ _ (h.books.stock.cardLots hc)).eq_nil hv)
    · exact h.books.restate hc c.state

theorem State.SameFence.visit (s : State) (slot : Nat) : s.SameFence (s.visit slot) := by
  unfold State.visit
  split
  · exact ⟨rfl, rfl, rfl, rfl⟩
  · dsimp only
    split <;> exact (State.SameFence.postAll s _).trans ⟨rfl, rfl, rfl, rfl⟩

theorem State.visit_arbiter (s : State) (slot : Nat) : (s.visit slot).arbiter = s.arbiter := by
  unfold State.visit
  split
  · rfl
  · dsimp only
    split <;> exact s.postAll_arbiter _

theorem State.Lawful.visit (h : s.Lawful) (slot : Nat) : (s.visit slot).Lawful := by
  obtain ⟨hst, hset, -, -⟩ := State.SameFence.visit s slot
  have hhold := s.visit_hold slot
  refine ⟨(h.tables.kept.visit slot).formed, h.stock.visit h.tables slot, ⟨hset ▸ h.fence.limit, ?_, ?_, ?_, ?_⟩,
    fun hr => (h.ledger (hst ▸ hr)).visit slot⟩
  · rw [hhold]; exact h.fence.holdSerial
  · rw [hhold]; exact h.fence.basketSerial
  · rw [hhold, hst]; exact h.fence.before
  · rw [hst, s.visit_arbiter]; exact h.fence.parked

theorem State.Lawful.sweepUnit (h : s.Lawful) : s.sweepUnit.Lawful := by
  have hw := h.tables.kept.sweepUnit.formed
  have visits : ∀ (slots : List Nat) {s : State}, s.Lawful → (slots.foldl State.visit s).Lawful := fun slots => by
    induction slots with
    | nil => exact fun h => h
    | cons j rest ih => exact fun h => ih (h.visit j)
  have hv := visits s.sweepVisits h
  unfold State.sweepUnit at hw ⊢
  dsimp only at hw ⊢
  split
  · next he =>
    rw [if_pos he] at hw
    exact hv.same hw (.endPass _)
  · next he =>
    rw [if_neg he] at hw
    exact hv.same hw (.of_eq rfl rfl rfl rfl rfl rfl)

theorem State.Lawful.tick (h : s.Lawful) : ({ s with hold := s.hold.tick } : State).Lawful := by
  refine ⟨(h.tables.kept.withHold h.tables.kept.hold.tick).formed, h.stock.same rfl rfl,
    ⟨h.fence.limit, h.fence.holdSerial, h.fence.basketSerial, fun hb => ?_, h.fence.parked⟩, fun hr => ?_⟩
  · obtain ⟨hh, hbs, hl⟩ := h.fence.before hb
    simp [HoldTable.tick, hh, hbs, hl]
  · have hl := h.ledger hr
    refine ⟨⟨(h.tables.kept.withHold h.tables.kept.hold.tick).formed, h.stock.same rfl rfl, hl.books.balanced.congr rfl fun _ => rfl,
      hl.books.reserved.tick rfl rfl rfl⟩, hl.agrees.tick⟩

theorem State.Lawful.takeTicks (h : s.Lawful) : s.takeTicks.Lawful := by
  have k : ({ s with hold := HoldTable.ticks s.hold.ticksDue s.hold } : State).Lawful :=
    HoldTable.ticks_keep (P := fun t => ({ s with hold := t } : State).Lawful) (fun t ht => ht.tick) _ h
  exact k.same h.tables.kept.takeTicks.formed ⟨rfl, rfl, rfl, rfl, rfl, fun _ hn => hn⟩

theorem State.Lawful.arbitrate (h : s.Lawful) : s.arbitrate.Lawful := h.same h.tables.kept.arbitrate.formed (.arbitrate s)

theorem State.Lawful.takeTick (h : s.Lawful) : s.takeTick.Lawful := by
  unfold State.takeTick
  split
  · have k : ({ s with hold := { s.hold.tick with ticksDue := s.hold.ticksDue - 1 } } : State).Lawful :=
      h.tick.same (h.tick.tables.kept.withHold ⟨False.elim, False.elim⟩).formed ⟨rfl, rfl, rfl, rfl, rfl, fun _ hn => hn⟩
    exact k.arbitrate
  · exact h

theorem State.Lawful.takeRoll (h : s.Lawful) : s.takeRoll.Lawful := h.same h.tables.kept.takeRoll.formed (.takeRoll s)

/-- A change outside the books and the tables. -/
theorem State.Lawful.plain (h : s.Lawful) (k : s.SameBooks t) (hw : t.watch = s.watch) (hs : t.schedules = s.schedules)
    (hc : t.period.snapshot.closed = s.period.snapshot.closed) : t.Lawful := by
  refine h.same (State.TablesKept.formed (r := False) ⟨?_, ⟨False.elim, False.elim⟩, ?_, ?_⟩) k
  · rw [k.cards]; exact h.tables.kept.cards
  · rw [k.merchants]; exact h.tables.kept.merchants
  · exact h.tables.kept.records.congr hw hs hc

theorem State.Lawful.advance (h : s.Lawful) : s.advance.Lawful :=
  h.takeTick.takeRoll.plain ⟨rfl, rfl, rfl, rfl, rfl, fun _ hn => hn⟩ rfl rfl rfl

theorem State.Lawful.setDivider (h : s.Lawful) (n : Nat) : (s.setDivider n).Lawful :=
  h.plain (.of_eq rfl rfl rfl rfl rfl rfl) rfl rfl rfl

theorem State.Lawful.fallBack (h : s.Lawful) : s.fallBack.Lawful :=
  State.Lawful.advance (h.plain (.of_eq rfl rfl rfl rfl rfl rfl) rfl rfl rfl)

theorem State.Lawful.edge (h : s.Lawful) : s.edge.Lawful := by
  unfold State.edge
  split
  · exact (h.setDivider 0).advance
  · exact h.plain (.of_eq rfl rfl rfl rfl rfl rfl) rfl rfl rfl
  · exact h.setDivider 0

theorem State.Lawful.dividerTick (h : s.Lawful) : s.dividerTick.Lawful := by
  unfold State.dividerTick
  split
  · split
    · exact h.fallBack
    · exact h.setDivider _
  · exact (h.setDivider _).advance
  · exact (h.setDivider _).advance

theorem State.Lawful.completeUnit (h : s.Lawful) (keeps : Bool) : (s.completeUnit keeps).Lawful := by
  unfold State.completeUnit
  refine State.Lawful.arbitrate (State.Lawful.takeTicks ?_)
  split
  · exact h
  · exact h.plain ⟨rfl, rfl, rfl, rfl, rfl, fun _ _ => rfl⟩ rfl rfl rfl

end

end Sys2Proof.Machine

namespace Sys2Proof.Machine

/-! ## The laws through every step -/

section
variable {s t : State}

/-- Lapse work under way, the store is READY. -/
theorem State.Fence.ready_of_lapse (h : s.Fence) (hl : s.hold.lapse ≠ []) (hh : s.arbiter.holder ≠ none) :
    s.store.state = .ready := by
  cases hs : s.store.state with
  | ready => rfl
  | mounting => exact absurd (h.before (.inl hs)).2.2 hl
  | unformatted => exact absurd (h.before (.inr hs)).2.2 hl
  | parked => exact absurd (h.parked hs) hh

theorem State.Lawful.lapseHold (h : s.Lawful) {n : Nat} {rest : List LapseItem} (hh : s.arbiter.holder ≠ none)
    (hl : s.hold.lapse = .hold n :: rest) : ((s.lapseHold n).dropLapse).Lawful := by
  have hr := h.fence.ready_of_lapse (by rw [hl]; nofun) hh
  have k := h.ledger hr
  obtain ⟨e, he, rfl, -⟩ := (k.agrees.lapseHold n).mp (hl ▸ List.mem_cons_self)
  have hend : s.lapseHold e.number = s.endHold e 0 := by
    unfold State.lapseHold
    rw [k.agrees.holdEntry he]
  have hhold : ((s.lapseHold e.number).dropLapse).hold = { s.hold.freeHold e with lapse := rest } := by
    have : (s.hold.freeHold e).lapse.tail = rest := congrArg List.tail hl
    rw [hend, State.dropLapse, State.endHold_hold, this]
  have hb := k.books.endHold k.agrees.numbers he 0
  refine h.of_ledger hr ⟨?_, by rw [hhold]; exact k.agrees.freeLapsing he hl⟩ ?_
  · rw [hend]
    exact hb.same (hb.tables.kept.dropLapse).formed rfl rfl rfl
  · rw [hend]
    exact (State.SameFence.endHold s e 0).trans ⟨rfl, rfl, rfl, rfl⟩

theorem State.Lawful.lapseBasket (h : s.Lawful) {n : Nat} {rest : List LapseItem} (hh : s.arbiter.holder ≠ none)
    (hl : s.hold.lapse = .basket n :: rest) : ((s.lapseBasket n).dropLapse).Lawful := by
  have hr := h.fence.ready_of_lapse (by rw [hl]; nofun) hh
  have k := h.ledger hr
  have hhold : ((s.lapseBasket n).dropLapse).hold =
      { s.hold with baskets := s.hold.baskets.filter (fun b => b.number ≠ n), lapse := rest } := by
    have : s.hold.lapse.tail = rest := congrArg List.tail hl
    rw [← this]
    rfl
  have hw : ((s.lapseBasket n).dropLapse).TablesFormed :=
    (h.tables.kept.withHold ⟨False.elim, False.elim⟩).formed
  exact h.of_ledger hr ⟨k.books.same hw rfl rfl rfl, by rw [hhold]; exact k.agrees.freeEmptyBasket hl⟩ ⟨rfl, rfl, rfl, rfl⟩

theorem State.Lawful.deviceReset (h : s.Lawful) (kind : ResetKind) (reads : Bool) : (s.deviceReset kind reads).Lawful := by
  have first : 1 ≤ 1 ∧ 1 ≤ Config.serialMax := by decide
  have hnot : (s.deviceReset kind reads).store.state ≠ .ready := by
    show (s.storeAtReset.started reads).state ≠ _
    unfold Store.started
    split
    · nofun
    · split <;> nofun
  exact ⟨(h.tables.kept.deviceReset kind reads).formed, h.stock.same rfl rfl,
    ⟨h.fence.limit, first, first, fun _ => ⟨rfl, rfl, rfl⟩, fun _ => rfl⟩,
    fun hr => absurd hr hnot⟩

theorem State.Lawful.parked (h : s.Lawful) (hn : s.arbiter.holder = none) : s.parked.Lawful :=
  ⟨(h.tables.kept.congr rfl rfl rfl rfl rfl rfl : s.parked.TablesKept False).formed, h.stock.same rfl rfl,
    ⟨h.fence.limit, h.fence.holdSerial, h.fence.basketSerial, fun hb => (hb.elim nofun nofun : False).elim, fun _ => hn⟩,
    nofun⟩

theorem State.Lawful.startPark (h : s.Lawful) : s.startPark.Lawful := by
  unfold State.startPark
  split
  · exact h
  · split
    · next hn => exact h.parked hn
    · exact h.plain ⟨rfl, rfl, rfl, rfl, rfl, fun _ hn => hn⟩ rfl rfl rfl

theorem State.Lawful.ofEvent (h : s.Lawful) (e : Event s t) : t.Lawful := by
  have hw : t.TablesFormed := (h.tables.kept.ofEvent e).formed
  have same : ∀ {u v : State}, u.Lawful → v.cards = u.cards → v.merchants = u.merchants → v.hold = u.hold → v.settings = u.settings →
      v.store = u.store → v.arbiter = u.arbiter → v.watch = u.watch → v.schedules = u.schedules → v.period = u.period → v.Lawful :=
    fun hu hc hm hh hs hst ha hwt hsc hp => hu.plain (.of_eq hc hm hh hs hst ha) hwt hsc (by rw [hp])
  cases e
  case nothing => exact h
  case completed f w _ _ hwork =>
    unfold State.completeRequest
    refine State.Lawful.completeUnit ?_ false
    split <;> exact same (h.workOf hwork) rfl rfl rfl rfl rfl rfl rfl rfl rfl
  case served rest w _ _ hwork =>
    have ht : (s.taken rest).Lawful := same h rfl rfl rfl rfl rfl rfl rfl rfl rfl
    exact State.Lawful.arbitrate (same (ht.workOf hwork) rfl rfl rfl rfl rfl rfl rfl rfl rfl)
  case put bytes => exact h.same hw (.put s bytes)
  case take n => exact h.same hw (.take s n)
  case linkReset | linkError => exact h.same hw (.of_eq rfl rfl rfl rfl rfl rfl)
  case cutEdge => exact h.same hw ((State.SameBooks.requestCut s).trans (.arbitrate _))
  case edge => exact h.edge
  case divider => exact h.dividerTick
  case fallBack => exact h.fallBack
  case tick => exact h.takeTick
  case roll => exact h.takeRoll
  case lapseWork hh hl => exact (h.lapseHold (by rw [hh]; nofun) hl).completeUnit false
  case emptyBasket hh hl => exact (h.lapseBasket (by rw [hh]; nofun) hl).completeUnit false
  case cut => exact h.cutWork.completeUnit false
  case walk => exact State.Lawful.completeUnit (h.same h.tables.kept.walkUnit.formed (.walkUnit s)) _
  case trailer => exact h.same hw (.trans (t := s.appendTrailer) (.of_eq rfl rfl rfl rfl rfl rfl) (.arbitrate _))
  case sweep => exact h.sweepUnit.completeUnit _
  case deviceReset kind reads => exact h.deviceReset kind reads
  case mounted hm => exact (h.completeMount hm).arbitrate
  case fall => exact State.Lawful.startPark (h.plain ⟨rfl, rfl, rfl, rfl, rfl, fun _ hn => hn⟩ rfl rfl rfl)
  case park hn => exact h.parked hn
  case rise => exact h.plain ⟨rfl, rfl, rfl, rfl, rfl, fun _ hn => hn⟩ rfl rfl rfl

theorem State.Lawful.step (h : s.Lawful) (hs : step s = .next t) : t.Lawful := by
  rcases step_cases hs with ⟨rest, e⟩ | ⟨hm, rfl⟩ | rfl
  · have hp : (s.setPending rest).Lawful := h.plain (.of_eq rfl rfl rfl rfl rfl rfl) rfl rfl rfl
    exact hp.ofEvent e
  · exact h.mountStep hm
  · exact h

/-! ### The laws as the obligation states them -/

theorem State.Lawful.of_kept (hw : s.TablesFormed) (h : s.LawsKept) : s.Lawful := by
  obtain ⟨b, k⟩ := h
  have hstock : s.Stock := ⟨b.lots, b.keys, b.value, State.numbersOnce_of b.numbers, b.operator, fun i hi => b.listed i (.inl hi),
    fun i hi => b.listed i (.inr hi)⟩
  refine ⟨hw, hstock, ⟨b.limit, b.holdSerial, b.basketSerial, b.before, b.parked⟩, fun hr => ?_⟩
  obtain ⟨directory, paid, promo, sponsored, held, count, countAt, present, amount, listedAt, agrees⟩ := k hr
  refine ⟨⟨hw, hstock, ⟨directory, fun acc => ?_⟩,
    ⟨fun slot c hc => ⟨held slot c hc, count slot c hc⟩, countAt, present, amount, listedAt⟩⟩, agrees⟩
  cases acc with
  | paid => exact paid
  | promo => exact promo
  | sponsor i => exact sponsored i

theorem State.Lawful.kept (h : s.Lawful) : s.LawsKept := by
  obtain ⟨hw, k, f, hl⟩ := h
  refine ⟨⟨k.lots, k.keys, k.value, fun e he x hx hn => ?_, f.limit, k.operator, fun i hi => hi.elim (k.sponsors i) (k.positions i),
    f.holdSerial, f.basketSerial, f.before, f.parked⟩, fun hr => ?_⟩
  · have hfe := (tableFind_iff hw.slots e.1 e.2).mpr he
    have hfx := (tableFind_iff hw.slots x.1 x.2).mpr hx
    have hslot := k.numbers e.1 x.1 e.2 x.2 hfe hfx hn
    rw [hslot, hfx] at hfe
    exact Prod.ext hslot (Option.some.inj hfe).symm
  · obtain ⟨⟨-, -, bal, res⟩, agrees⟩ := hl hr
    exact ⟨bal.named, bal.total .paid, bal.total .promo, fun i => bal.total (.sponsor i), fun slot c hc => (res.cards slot c hc).1,
      fun slot c hc => (res.cards slot c hc).2, res.countAt, res.present, res.amount, res.listedAt, agrees⟩

end

/-- Settles O5: the lots by the rule for every card, the laws by the books kept through every event of a step. -/
theorem stepKeepsLots : Obligations.StepKeepsLots :=
  ⟨fun _ _ => State.LotsKept.step, fun _ _ hw h hs => ((State.Lawful.of_kept hw h).step hs).kept⟩

end Sys2Proof.Machine

namespace Sys2Proof.Machine

/-! ## REPLACE (R3, R41, R42) -/

/-- A renamed card's record stands in its slot, and the other slots stay. -/
theorem State.renameCard_cardAt (s : State) (slot o j : Nat) (c : Card) :
    (s.renameCard slot o c).cardAt j = if j = slot then some c else s.cardAt j := s.putCard_cardAt slot j c

/-- Rename of R3: the new number leads to the slot, the old one nowhere, and every other number where it led before. -/
theorem State.renameCard_directory {s : State} (h : tableWf s.cards.directory) {o : Nat} (c : Card) (slot k : Nat) :
    tableFind (s.renameCard slot o c).cards.directory k =
      if k = c.number then some slot else if k = o then none else tableFind s.cards.directory k := by
  show tableFind (tableInsert (tableErase s.cards.directory o) c.number slot) k = _
  split
  · next hn => rw [hn, tableFind_insert_self]
  · next hn =>
    rw [tableFind_insert_ne _ _ hn]
    split
    · next ho => rw [ho, tableFind_erase_self _ _ h]
    · next ho => exact tableFind_erase_ne _ ho

/-- REPLACE, when each of its tests is passed: both numbers are compared with the watch list, and the card is expired and
renamed. -/
theorem replaceUnit_accepted {s : State} {o n slot : Nat} {c : Card} (hf : s.PassesFront [o, n])
    (hl : s.lookup o = some (slot, c)) (hd : tableFind s.cards.directory n = none) (hc : c.state ≠ .closing)
    (hh : c.openHolds = 0) :
    replaceUnit o n s = (⟨.ok, field 8 n ++ [1#8, 0#8] ++ field 4 (lotsValue (expireLots s.today c.lots))
        ++ field 2 (expireLots s.today c.lots).length⟩,
      (((s.compareWatch o).compareWatch n).postAll (lotsPostings s.today c.lots)).renameCard slot o
        ⟨n, .active, expireLots s.today c.lots, 0, c.lastActivity⟩) := by
  have hw : ((s.compareWatch o).compareWatch n).lookup o = some (slot, c) := by simpa using hl
  have hclosing : ¬ (c.expire s.today).state = .closing := hc
  have hholds : (c.expire s.today).openHolds = 0 := hh
  rw [replaceUnit, cardFront_passed _ hf]
  simp only [List.foldl_cons, List.foldl_nil]
  rw [withCard_found _ hw]
  simp only [State.compareWatch_cards, State.compareWatch_today, hd, Option.isSome_none, Bool.false_eq_true, hclosing, hholds,
    Nat.lt_irrefl, if_false]
  rfl

/-- Settles O24, from the slots and the directory that a rename leaves. -/
theorem replaceRenamesCard : Obligations.ReplaceRenamesCard := by
  intro s f o n slot c hp ht hf hl hd hc hh lots v
  have hx : exec .replace s = .next ((replaceUnit o n s).2.completeRequest f (replaceUnit o n s).1) :=
    hp.exec_card (r := .replace o n) (by simp [Request.cardNumbers])
  rw [replaceUnit_accepted hf hl hd hc hh] at hx
  have hne : o ≠ n := by
    rintro rfl
    rw [State.directory_of_lookup hl] at hd
    cases hd
  have vdir : v.cards.directory = s.cards.directory := by simp [v]
  have directory := fun k => State.renameCard_directory (s := v) (o := o) (vdir ▸ ht.directory)
    ⟨n, .active, lots, 0, c.lastActivity⟩ slot k
  refine ⟨_, hx, rfl, ?_, ?_, ?_, fun k ho hn => ?_, fun j hj => ?_⟩
  · rw [State.renameCard_cardAt, if_pos rfl]
  · rw [directory, if_pos rfl]
  · rw [directory, if_neg hne, if_pos rfl]
  · rw [directory, if_neg hn, if_neg ho, vdir]
  · rw [State.renameCard_cardAt, if_neg hj]
    simp

/-! ## WATCH_SET (R43, R44) -/

/-- A present first field of one byte is the leading byte of its body. -/
theorem leadingByte_of_readFields {ws : List Nat} {body : List Byte} {op : Nat} {rest : List (Option Nat)}
    (h : readFields (1 :: ws) body = some (some op :: rest)) : leadingByte body = some op := by
  cases body with
  | nil => cases h
  | cons p bytes =>
    rw [readFields] at h
    split at h
    · obtain ⟨fs, -, he⟩ := Option.map_eq_some_iff.mp h
      cases he
    split at h
    · next hp =>
      cases bytes with
      | nil => simp at h
      | cons v bytes =>
        obtain ⟨fs, -, he⟩ := Option.map_eq_some_iff.mp ((if_neg (by simp)).symm.trans h)
        have hop : numberOf [v] = op := Option.some.inj (List.cons.inj he).1
        simpa [leadingByte, hp, numberOf, numberFrom] using hop
    · cases h

/-- The fields that WATCH_SET reads as a request are those the request carries. -/
theorem watchSetOf_fields {fields : List (Option Nat)} {r : Request} (h : watchSetOf fields = some r) :
    fields = r.fields := by
  unfold watchSetOf at h
  split at h
  · split at h
    · next ho => cases h; rw [ho]; rfl
    · cases h
  · split at h
    · next ho => cases h; rw [ho]; rfl
    split at h
    · next ho => cases h; rw [ho]; rfl
    · cases h
  · cases h

/-- The frame of a WATCH_SET request is taken by the row of its operation. -/
theorem Frame.isOperation_watchSet {f : Frame} {r : Request} (h : f.request = some r) (hk : r.kind = .watchSet) {op : Nat}
    {rest : List (Option Nat)} (ho : r.fields = some op :: rest) (last : Nat) :
    f.isOperation .watchSet op last = true := by
  have hkind : kindOf f.kind = some .watchSet := hk ▸ Frame.kind_of_request h
  have hread : readRequest .watchSet f.body = some r := by simpa [Frame.request, hkind] using h
  obtain ⟨fields, hfields, hr⟩ := Option.bind_eq_some_iff.mp hread
  rw [watchSetOf_fields hr, ho] at hfields
  simp [Frame.isOperation, Frame.isKind, hkind, leadingByte_of_readFields hfields]

/-- A WATCH_SET request in progress is completed by the unit of its operation's row. -/
theorem State.InProgress.serve_watchSet {s : State} {f : Frame} {r : Request} (h : s.InProgress f r) (hk : r.kind = .watchSet)
    {op : Nat} {rest : List (Option Nat)} (ho : r.fields = some op :: rest) (last : Nat)
    (unit : Request → State → Reply × State) :
    s.serve (Frame.isOperation .watchSet op last) (wellFormedOr unit) = (unit r s).2.completeRequest f (unit r s).1 := by
  rw [s.serve_inProgress _ _ h.current h.holds (Frame.isOperation_watchSet h.carries hk ho last),
    wellFormedOr_some _ _ h.carries]

/-- The entry that a WRITE acts on: the one named when no entry holds the number, else one that holds it (R44). -/
theorem State.watchTarget_spec {s : State} (h : tableWf s.watch) (e n : Nat) :
    s.watchTarget e n = e ∧ (∀ k w, tableFind s.watch k = some w → w.number ≠ n) ∨
      ∃ w, tableFind s.watch (s.watchTarget e n) = some w ∧ w.number = n := by
  unfold State.watchTarget
  split
  · next x hx =>
    exact .inr ⟨x.2, (tableFind_iff h x.1 x.2).mpr (List.mem_of_find?_eq_some hx), by simpa using List.find?_some hx⟩
  · next hx =>
    exact .inl ⟨rfl, fun k w hw => by simpa using List.find?_eq_none.mp hx (k, w) (mem_of_tableFind hw)⟩

theorem watchWriteUnit_accepted {s : State} {e n a : Nat} {action : WatchAction} (hr : s.store.state = .ready)
    (hv : validNumber n = true) (he : e < 8) (ha : watchActionOf a = some action) :
    watchWriteUnit e n a s = watchReply (s.watchTarget e n)
      { s with watch := tableInsert s.watch (s.watchTarget e n) ⟨n, action⟩ } := by
  have hentry : ¬ Config.watchEntries ≤ e := Nat.not_le.mpr he
  rw [watchWriteUnit, whenReady_ready _ hr]
  simp only [hv, Bool.not_true, Bool.false_eq_true, hentry, if_false, ha]

theorem watchClearUnit_accepted {s : State} {e : Nat} (hr : s.store.state = .ready) (he : e < 8) :
    watchClearUnit e s = watchReply e { s with watch := tableErase s.watch e } := by
  rw [watchClearUnit, whenReady_ready _ hr]
  exact if_neg (Nat.not_le.mpr he)

theorem watchListUnit_accepted {s : State} {e : Nat} (hr : s.store.state = .ready) (he : e < 8) :
    watchListUnit e s = watchReply e s := by
  rw [watchListUnit, whenReady_ready _ hr]
  exact if_neg (Nat.not_le.mpr he)

/-- Every entry of a table after one is emptied. -/
theorem tableFind_erase {α : Type} {t : Table α} (h : tableWf t) (e i : Nat) :
    tableFind (tableErase t e) i = if i = e then none else tableFind t i := by
  split
  · next hi => rw [hi, tableFind_erase_self t e h]
  · next hi => exact tableFind_erase_ne t hi

/-- Settles O25. -/
theorem watchSetActs : Obligations.WatchSetActs := by
  intro s f e n a action ht he
  refine ⟨fun hp hv ha => ⟨s.watchTarget e n, State.watchTarget_spec ht.watch e n, ?_⟩, fun hp => ?_, fun hp => ?_⟩
  · show execWatchSetWrite s = _
    rw [execWatchSetWrite, hp.serve_watchSet rfl rfl]
    simp only [watchWriteUnit_accepted hp.ready hv he ha]
    rfl
  · show execWatchSetClear s = _
    rw [execWatchSetClear, hp.serve_watchSet rfl rfl]
    simp only [watchClearUnit_accepted hp.ready he, watchReply, tableFind_erase ht.watch]
  · show execWatchSetList s = _
    rw [execWatchSetList, hp.serve_watchSet rfl rfl]
    simp only [watchListUnit_accepted hp.ready he]
    rfl

end Sys2Proof.Machine

namespace Sys2Proof.Machine

/-! ## The completion of a request (R66, R176, R177, R187, R189) -/

/-- The state in which a completed request leaves the store to the arbiter: the answer added or discarded, the engine idle,
the store given up, and the ticks that waited taken (R66, R177, R187, R189). -/
abbrev State.completed (s : State) (f : Frame) (r : Reply) : State := { s with
  link := { s.link with answers := if s.engine.discard then s.link.answers else s.link.answers ++ [answerFrame f r] }
  engine := ⟨none, false⟩
  arbiter := ⟨none, s.arbiter.holder.getD s.arbiter.lastHolder⟩
  hold := { HoldTable.ticks s.hold.ticksDue s.hold with ticksDue := 0 } }

theorem State.completeRequest_eq (s : State) (f : Frame) (r : Reply) :
    s.completeRequest f r = (s.completed f r).arbitrate := by
  unfold State.completeRequest State.completed
  cases s.engine.discard <;> rfl

/-- A grant keeps the last holder (R176). -/
theorem State.arbitrate_lastHolder (s : State) : s.arbitrate.arbiter.lastHolder = s.arbiter.lastHolder := by
  unfold State.arbitrate State.grant
  split
  · rfl
  · split
    · rfl
    · split <;> rfl

/-- The arbiter leaves the store free when no claimant may hold it (R177). -/
theorem State.arbitrate_of_no_claim {s : State} (h : ∀ c, ¬ s.MayHold c) : s.arbitrate = s := by
  refine s.arbitrate_of_none (Option.eq_none_iff_forall_ne_some.mpr fun c hc => h c (State.grantee_may hc))

/-- Settles O13. -/
theorem completionAddsAnswer : Obligations.CompletionAddsAnswer := by
  intro s f r
  have heq := s.completeRequest_eq f r
  refine ⟨⟨heq, (s.completed f r).arbitrate_grant, ?_, fun hh => ?_, fun hn => ?_⟩, (s.answer f r).arbitrate_grant, rfl⟩
  · rw [heq, State.arbitrate_answers]
  · rw [heq, State.arbitrate_lastHolder]
    show s.arbiter.holder.getD s.arbiter.lastHolder = _
    rw [hh]
    rfl
  · have hidle : s.completeRequest f r = s.completed f r := heq.trans (State.arbitrate_of_no_claim hn)
    rw [hidle]
    exact ⟨rfl, rfl⟩

end Sys2Proof.Machine

namespace Sys2Proof.Machine

/-! ## CAPTURE and RELEASE (R61 to R63) -/

/-- CAPTURE, when each of its tests is passed. -/
theorem captureUnit_accepted {s : State} {n a : Nat} {h : Hold} (hr : s.store.state = .ready) (hs : s.clock.isSet = true)
    (hh : s.hold.openHold n = some h) (hb : h.basket = none) (ha : a ≤ h.amount) (hm : a ≤ 1000000) :
    let taken := if a = 0 then h.amount else a
    let r := s.endReportOf h taken
    let u := (s.endHold h taken).postAll (capturePostings h.merchant taken)
    captureUnit n a s = (⟨.ok, field 4 n ++ field 4 taken ++ field 4 r.paid ++ field 4 r.promo ++ field 4 r.returned
      ++ field 4 r.expired ++ field 1 (u.disposition h.slot)⟩, u) := by
  obtain ⟨-, rfl, -⟩ := openHold_spec hh
  have hm : ¬ Config.amountMax < a := Nat.not_lt.mpr hm
  have ha : ¬ h.amount < a := Nat.not_lt.mpr ha
  simp only [captureUnit, whenSet_set _ hr hs, hm, hh, hb, ha, Option.isSome_none, Bool.false_eq_true, if_false]

/-- RELEASE of an OPEN hold. -/
theorem releaseUnit_accepted {s : State} {n : Nat} {h : Hold} (hr : s.store.state = .ready) (hs : s.clock.isSet = true)
    (hh : s.hold.openHold n = some h) :
    let r := s.endReportOf h 0
    releaseUnit n s = (⟨.ok, field 4 n ++ field 4 r.returned ++ field 4 r.expired
      ++ field 1 ((s.endHold h 0).disposition h.slot)⟩, s.endHold h 0) := by
  obtain ⟨-, rfl, -⟩ := openHold_spec hh
  simp only [releaseUnit, whenSet_set _ hr hs, hh]

/-- Settles O28. -/
theorem captureReleaseEndHold : Obligations.CaptureReleaseEndHold := by
  intro s f n a h hset hh
  refine ⟨fun hp hb ha hm => ?_, fun hp => ?_⟩
  · have hx := s.exec_row_held (r := .capture n a) hp.current hp.holds hp.carries nofun nofun
    rw [Request.work, captureUnit_accepted hp.ready hset hh hb ha hm] at hx
    exact hx
  · have hx := s.exec_row_held (r := .release n) hp.current hp.holds hp.carries nofun nofun
    rw [Request.work, releaseUnit_accepted hp.ready hset hh] at hx
    exact hx

/-! ## Lapse work (R69, R70, R81) -/

/-- The end of a hold leaves the lapse list. -/
theorem State.endHold_lapse (s : State) (h : Hold) (taken : Nat) : (s.endHold h taken).hold.lapse = s.hold.lapse := by
  rw [State.endHold_hold]
  rfl

/-- Settles O33. -/
theorem lapseWorkFinishesOldest : Obligations.LapseWorkFinishesOldest := by
  intro s n rest hh
  refine ⟨fun h hl hf => ⟨_, rfl, (s.endHold_lapse h 0).trans hl, ?_⟩, fun hl => ?_⟩
  · have hw : (s.lapseHold n).dropLapse =
        { s.endHold h 0 with hold := { (s.endHold h 0).hold with lapse := rest } } := by
      have hentry : s.hold.holdEntry n = some h := hf
      simp only [State.lapseHold, hentry, State.dropLapse, State.endHold_lapse, hl, List.tail_cons]
    show execLapseWork s = _
    rw [← hw]
    simp only [execLapseWork, hh, hl]
  · show execEmptyBasketLapse s = _
    simp only [execEmptyBasketLapse, hh, hl, State.lapseBasket, State.dropLapse, List.tail_cons]

/-! ## BASKET_OPEN (R56, R76, R78) -/

/-- A number that is not carried is the one the search starts and ends on (R50, R76). -/
theorem freeSerial_of_free {carried : List Nat} {n : Nat} (h : n ∉ carried) (k : Nat) : freeSerial carried k n = n := by
  cases k with
  | zero => rfl
  | succ k => rw [freeSerial, if_neg (by simpa using h)]

theorem HoldTable.nextBasket_of_free {t : HoldTable} (h : ∀ b ∈ t.baskets, b.number ≠ t.basketSerial) :
    t.nextBasket = t.basketSerial :=
  freeSerial_of_free (by simpa using h) _

/-- BASKET_OPEN, when each of its tests is passed. -/
theorem basketOpenUnit_accepted {s : State} {m t : Nat} (minutes : Option Nat) (hr : s.store.state = .ready)
    (hs : s.clock.isSet = true) (hm : m < 512) (ht : t ≤ 65535) (ha : (s.merchant m).state = .active)
    (hb : s.hold.baskets.length < 1024) :
    basketOpenUnit m t minutes s =
      (⟨.ok, field 4 s.hold.nextBasket ++ field 2 (minutesApplied s.cfg.holdMinutes minutes)⟩,
       { s with hold := { s.hold with
           baskets := s.hold.baskets ++ [⟨s.hold.nextBasket, .opened, m, t, [], minutesApplied s.cfg.holdMinutes minutes⟩]
           basketSerial := bumpSerial s.hold.nextBasket } }) := by
  have hrange : (indexInRange m && decide (t ≤ 65535)) = true := by simp [indexInRange, hm, ht]
  have hfull : ¬ Config.basketEntries ≤ s.hold.baskets.length := Nat.not_le.mpr hb
  simp only [basketOpenUnit, whenSet_set _ hr hs, hrange, State.isActive_of_state ha, hfull, Bool.not_true,
    Bool.false_eq_true, if_false]

/-- Settles O34. -/
theorem basketOpenAddsBasket : Obligations.BasketOpenAddsBasket := by
  intro s f m t minutes hp hset hm ht ha hb applied
  have happlied : minutesApplied s.cfg.holdMinutes minutes = applied := by
    cases minutes with
    | none => rfl
    | some k =>
      simp only [minutesApplied, applied, Config.minutesMax]
      split
      · rfl
      · split <;> omega
  have hx := s.exec_row_held (r := .basketOpen m t minutes) hp.current hp.holds hp.carries nofun nofun
  rw [Request.work, basketOpenUnit_accepted minutes hp.ready hset hm ht ha hb, happlied] at hx
  exact ⟨s.hold.nextBasket, fun b hm e => HoldTable.nextBasket_fresh hb (List.mem_map.mpr ⟨b, hm, e⟩),
    HoldTable.nextBasket_of_free, hx⟩

end Sys2Proof.Machine

namespace Sys2Proof.Machine

/-! ## Purchases: AUTHORIZE and SALE (R52 to R57, R64, R65) -/

/-- What a purchase gets when it is not INSUFFICIENT: the amount, or with partial-ok what the card has (R54). -/
theorem amountDecided_accepted {available a p : Nat} (h : a ≤ available ∨ 0 < available ∧ p = 1) :
    amountDecided available a (p == 1) = some (if a ≤ available then .ok else .partialOk, min a available) := by
  unfold amountDecided
  by_cases ha : a ≤ available
  · rw [if_pos ha, if_pos ha, Nat.min_eq_left ha]
  · obtain ⟨hpos, hp⟩ := h.resolve_left ha
    rw [if_neg ha, if_neg ha, if_pos (by simp [hpos, hp]), Nat.min_eq_right (Nat.le_of_not_le ha)]

/-- The basket tests of AUTHORIZE, when they are passed (R53, R79). -/
theorem basketRefusal_passed {t : HoldTable} {m : Nat} {basket : Option Nat}
    (h : ∀ k, basket = some k → ∃ b, t.openBasket k = some b ∧ b.merchant = m ∧ b.members.length < 4) :
    basketRefusal t m basket = none := by
  cases basket with
  | none => rfl
  | some k =>
    obtain ⟨b, hb, hm, hlen⟩ := h k rfl
    have hroom : ¬ Config.basketMembers ≤ b.members.length := Nat.not_le.mpr hlen
    simp [basketRefusal, hb, hm, hroom]

/-- AUTHORIZE, when each of its tests is passed (R52 to R57). -/
theorem authorizeUnit_accepted {s : State} {n m t a p slot : Nat} {minutes basket : Option Nat} {c : Card}
    (hf : s.PassesFront [n]) (hr : purchaseInRange m t a p = true) (hb0 : basket ≠ some 0)
    (hm : (s.merchant m).state = .active) (hl : s.lookup n = some (slot, c)) (hc : c.state = .active)
    (hholds : s.hold.holds.length < 8192) (hfew : c.openHolds < 8) (hb : basketRefusal s.hold m basket = none)
    (hav : a ≤ lotsAvailable (expireLots s.today c.lots) ∨ 0 < lotsAvailable (expireLots s.today c.lots) ∧ p = 1) :
    let lots := expireLots s.today c.lots
    let amount := min a (lotsAvailable lots)
    let hold := newHold s slot m t amount c minutes basket
    authorizeUnit n m t a p minutes basket s =
      (⟨if a ≤ lotsAvailable lots then .ok else .partialOk,
        field 4 hold.number ++ field 4 amount ++ fieldBytes 2 hold.minutes ++ fieldBytes 4 basket
          ++ field 4 (lotsAvailable lots - amount)⟩,
       { ((s.reached n c).putCard slot
            { c with lots := reserveLots amount lots, openHolds := c.openHolds + 1 }).onMerchant m
          (fun r => { r with openHolds := r.openHolds + 1 }) with hold := s.hold.addHold hold }) := by
  intro lots amount hold
  have hstate : (c.expire s.today).state = .active := hc
  have hplaces : (decide (Config.holdEntries ≤ s.hold.holds.length) ||
      decide (Config.holdsPerCard ≤ (c.expire s.today).openHolds)) = false := by
    simp [Card.expire, Nat.not_le.mpr hholds, Nat.not_le.mpr hfew]
  have hdecided : amountDecided (lotsAvailable (c.expire s.today).lots) a (p == 1) =
      some (if a ≤ lotsAvailable lots then .ok else .partialOk, amount) := amountDecided_accepted hav
  rw [authorizeUnit, cardFront_passed _ hf]
  simp only [List.foldl_cons, List.foldl_nil, hr, beq_eq_false_iff_ne.mpr hb0, State.compareWatch_isActive,
    State.isActive_of_state hm, Bool.not_true, Bool.or_false, Bool.false_eq_true, if_false]
  rw [withCard_found _ ((s.compareWatch_lookup n n).trans hl), State.compareWatch_today]
  simp only [hstate, State.compareWatch_hold, State.compareWatch_cfg, hplaces, hb, hdecided, Bool.false_eq_true, if_false]
  rw [reserveLots_available]
  have hadd : s.hold.addHold hold = (s.reached n c).hold.addHold hold := by simp [State.reached]
  rw [hadd, ← hstate]
  rfl

/-- Settles O26. -/
theorem authorizeReserves : Obligations.AuthorizeReserves := by
  intro s f n m t a p slot minutes basket c hp hf hm ht ha1 ha2 hp1 hb0 hact hl hc hholds hfew hb lots available hav amount
    hold card
  have hx : exec .authorize s = .next ((authorizeUnit n m t a p minutes basket s).2.completeRequest f
      (authorizeUnit n m t a p minutes basket s).1) :=
    hp.exec_card (r := .authorize n m t a p minutes basket) (by simp [Request.cardNumbers])
  rw [authorizeUnit_accepted hf (purchaseInRange_iff.mpr ⟨hm, ht, ⟨ha1, ha2⟩, hp1⟩) hb0 hact hl hc hholds hfew
    (basketRefusal_passed hb) hav] at hx
  exact hx

/-- A SALE returns nothing, so its parts post the cents taken alone (R65). -/
theorem saleParts_postings (today : Option Nat) (a : Nat) (lots : List Lot) :
    (saleParts a lots).flatMap (PartEnd.postings today) =
      (saleParts a lots).flatMap (fun p => takenPostings p.key p.taken) := by
  have hzero : ∀ p ∈ saleParts a lots, p.postings today = takenPostings p.key p.taken := fun p hp => by
    obtain ⟨q, -, rfl⟩ := List.mem_map.mp hp
    simp [PartEnd.postings, PartEnd.expired, expiryPostings]
  exact List.flatMap_congr hzero

/-- SALE, when each of its tests is passed. -/
theorem saleUnit_accepted {s : State} {n m t a p slot : Nat} {c : Card} (hf : s.PassesFront [n])
    (hr : purchaseInRange m t a p = true) (hm : (s.merchant m).state = .active) (hl : s.lookup n = some (slot, c))
    (hc : c.state = .active)
    (hav : a ≤ lotsAvailable (expireLots s.today c.lots) ∨ 0 < lotsAvailable (expireLots s.today c.lots) ∧ p = 1) :
    let lots := expireLots s.today c.lots
    let amount := min a (lotsAvailable lots)
    let parts := saleParts amount lots
    saleUnit n m t a p s =
      (⟨if a ≤ lotsAvailable lots then .ok else .partialOk,
        field 4 amount ++ field 4 (paidTaken parts) ++ field 4 (promoTaken parts) ++ field 4 (lotsAvailable lots - amount)⟩,
       ((s.reached n c).putCard slot
          { c with lots := dropEmpty (drawLots amount lots), lastActivity := s.clock.day }).postAll
        (parts.flatMap (PartEnd.postings s.today) ++ capturePostings m amount)) := by
  intro lots amount parts
  have hstate : (c.expire s.today).state = .active := hc
  have hdecided : amountDecided (lotsAvailable (c.expire s.today).lots) a (p == 1) =
      some (if a ≤ lotsAvailable lots then .ok else .partialOk, amount) := amountDecided_accepted hav
  have hleft : lotsAvailable (dropEmpty (drawLots amount lots)) = lotsAvailable lots - amount := by
    rw [dropEmpty_available, drawLots_available _ _ (Nat.min_le_right _ _)]
  rw [saleUnit, cardFront_passed _ hf]
  simp only [List.foldl_cons, List.foldl_nil, hr, State.compareWatch_isActive, State.isActive_of_state hm, Bool.not_true,
    Bool.false_eq_true, if_false]
  rw [withCard_found _ ((s.compareWatch_lookup n n).trans hl), State.compareWatch_today]
  simp only [hstate, hdecided, State.compareWatch_clock]
  rw [← hleft, ← hstate]
  rfl

/-- Settles O30. -/
theorem saleTakes : Obligations.SaleTakes := by
  intro s f n m t a p slot c hp hf hm ht ha1 ha2 hp1 hact hl hc lots available hav amount parts card
  have hx : exec .sale s = .next ((saleUnit n m t a p s).2.completeRequest f (saleUnit n m t a p s).1) :=
    hp.exec_card (r := .sale n m t a p) (by simp [Request.cardNumbers])
  have hpos : amount ≠ 0 := by omega
  rw [saleUnit_accepted hf (purchaseInRange_iff.mpr ⟨hm, ht, ⟨ha1, ha2⟩, hp1⟩) hact hl hc hav, saleParts_postings,
    capturePostings, if_neg hpos] at hx
  exact hx

end Sys2Proof.Machine

namespace Sys2Proof.Machine

/-! ## Minute ticks (R66, R69, R80) -/

/-- A tick that is due is taken when no unit is in progress (R66). -/
theorem State.takeTick_due {s : State} (h : 0 < s.hold.ticksDue) (hn : s.arbiter.holder = none) :
    s.takeTick = ({ s with hold := { s.hold.tick with ticksDue := s.hold.ticksDue - 1 } } : State).arbitrate :=
  if_pos ⟨h, hn⟩

section
variable {t : HoldTable} {e : Hold} {b : Basket} {lapsing : List Nat}

theorem HoldTable.mem_tick_holds (h : e ∈ t.holds) : e.tick t.lapsingBaskets ∈ t.tick.holds := List.mem_map_of_mem h

theorem HoldTable.mem_tick_baskets (h : b ∈ t.baskets) : b.tick ∈ t.tick.baskets := List.mem_map_of_mem h

/-- A hold that lapses joins the lapse list (R69). -/
theorem HoldTable.hold_mem_tick_lapse (h : e ∈ t.holds) (hl : e.lapsesNext t.lapsingBaskets = true) :
    LapseItem.hold e.number ∈ t.tick.lapse :=
  List.mem_append_left _ (List.mem_append_right _ (List.mem_map.mpr ⟨e, List.mem_filter.mpr ⟨h, hl⟩, rfl⟩))

/-- A basket that lapses without members joins the lapse list (R80). -/
theorem HoldTable.basket_mem_tick_lapse (h : b ∈ t.baskets) (hl : b.lapsesNext = true) (hm : b.members = []) :
    LapseItem.basket b.number ∈ t.tick.lapse :=
  List.mem_append_right _ (List.mem_map.mpr ⟨b, List.mem_filter.mpr ⟨h, by simp [hl, hm]⟩, rfl⟩)

theorem HoldTable.tick_appends_lapse (t : HoldTable) : t.lapse <+: t.tick.lapse :=
  ⟨_, (List.append_assoc ..).symm⟩

/-- An OPEN basket lapses at the next tick when at most one minute is left (R80). -/
theorem Basket.lapsesNext_opened (ho : b.state = .opened) : b.lapsesNext = decide (b.minutes ≤ 1) := by
  simp [Basket.lapsesNext, ho]

theorem HoldTable.mem_lapsingBaskets (h : b ∈ t.baskets) (hl : b.lapsesNext = true) : b.number ∈ t.lapsingBaskets :=
  List.mem_map.mpr ⟨b, List.mem_filter.mpr ⟨h, hl⟩, rfl⟩

/-- An OPEN hold of its own timer lapses at the next tick when at most one minute is left (R66). -/
theorem Hold.lapsesNext_alone {k : Nat} (ho : e.state = .opened) (hb : e.basket = none) (hm : e.minutes = some k) :
    e.lapsesNext lapsing = decide (k ≤ 1) := by
  simp [Hold.lapsesNext, Hold.lapsesAlone, ho, hb, hm]

/-- An OPEN member lapses with its basket (R80). -/
theorem Hold.lapsesNext_member {n : Nat} (ho : e.state = .opened) (hb : e.basket = some n) (hn : n ∈ lapsing) :
    e.lapsesNext lapsing = true := by
  simp [Hold.lapsesNext, ho, hb, hn]

@[simp] theorem Hold.tick_terminal (e : Hold) (lapsing : List Nat) : (e.tick lapsing).terminal = e.terminal := by
  unfold Hold.tick
  split <;> rfl

theorem Hold.tick_of_lapsing (h : e.state = .lapsing) : e.tick lapsing = e := if_neg (by rw [h]; nofun)

theorem Hold.tick_alone {k : Nat} (ho : e.state = .opened) (hb : e.basket = none) (hm : e.minutes = some k) :
    e.tick lapsing = { e with minutes := some (k - 1), state := if k ≤ 1 then .lapsing else .opened } := by
  simp [Hold.tick, ho, Hold.lapsesNext_alone ho hb hm, hb, hm]

theorem Hold.tick_member {n : Nat} (ho : e.state = .opened) (hb : e.basket = some n) (hn : n ∈ lapsing) :
    e.tick lapsing = { e with state := .lapsing } := by
  simp [Hold.tick, ho, Hold.lapsesNext_member ho hb hn, hb]

theorem Basket.tick_opened (ho : b.state = .opened) :
    b.tick = { b with minutes := b.minutes - 1, state := if b.minutes ≤ 1 then .lapsing else .opened } := by
  simp [Basket.tick, ho, Basket.lapsesNext_opened ho]

end

/-- Settles O32, entry by entry of the Hold Table after the tick. -/
theorem minuteTickCountsDown : Obligations.MinuteTickCountsDown := by
  intro s hdue hfree h u
  have htick : s.takeTick = u.arbitrate := State.takeTick_due hdue hfree
  refine ⟨congrArg _ htick, fun hl => ?_, fun hl => ?_, u.arbitrate_grant, ?_, fun e he ho hb k hm => ⟨?_, fun hk => ?_⟩,
    fun e he hs => ?_, fun b hb ho => ⟨?_, fun hk e he heo hj => ?_, fun hk hm => ?_⟩, s.hold.tick_appends_lapse⟩
  · exact congrArg _ ((if_pos hl).trans htick)
  · exact congrArg _ ((if_pos hl).trans htick)
  · simp [h, HoldTable.tick]
  · exact Hold.tick_alone ho hb hm ▸ HoldTable.mem_tick_holds he
  · exact HoldTable.hold_mem_tick_lapse he (by simpa [Hold.lapsesNext_alone ho hb hm] using hk)
  · exact Hold.tick_of_lapsing hs ▸ HoldTable.mem_tick_holds he
  · exact Basket.tick_opened ho ▸ HoldTable.mem_tick_baskets hb
  · have hin : b.number ∈ s.hold.lapsingBaskets :=
      HoldTable.mem_lapsingBaskets hb (by simpa [Basket.lapsesNext_opened ho] using hk)
    exact ⟨Hold.tick_member heo hj hin ▸ HoldTable.mem_tick_holds he,
      HoldTable.hold_mem_tick_lapse he (Hold.lapsesNext_member heo hj hin)⟩
  · exact HoldTable.basket_mem_tick_lapse hb (by simpa [Basket.lapsesNext_opened ho] using hk) hm

end Sys2Proof.Machine

namespace Sys2Proof.Machine

/-! ## Holds ended and baskets freed one after another (R86, R89) -/

/-- The baskets released one after another: the first pass of TERMINAL_CLEAR (R89). -/
abbrev State.releaseBaskets (s : State) (bs : List Basket) : State := bs.foldl State.releaseBasket s

/-- The state after both passes of TERMINAL_CLEAR (R89). -/
abbrev State.terminalCleared (s : State) (m t : Nat) : State :=
  (s.clearBaskets m t).endHolds ((s.clearBaskets m t).clearedHolds m t)

section
variable {P : State → Prop} {s : State}

/-- What the end of each hold keeps, with nothing taken, the end of them all keeps. -/
theorem State.endHolds_keep (hend : ∀ u e, P u → P (State.endHold u e 0)) {ends : List (Hold × Nat)}
    (hz : ∀ e ∈ ends, e.2 = 0) (h : P s) : P (s.endHolds ends) := by
  induction ends generalizing s with
  | nil => exact h
  | cons e rest ih =>
    have he : P (s.endHold e.1 e.2) := (hz e List.mem_cons_self).symm ▸ hend s e.1 h
    exact ih (fun x hx => hz x (List.mem_cons_of_mem e hx)) he

theorem releaseEnds_zero (s : State) (b : Basket) : ∀ e ∈ s.releaseEnds b, e.2 = 0 := fun e he => by
  obtain ⟨h, -, rfl⟩ := List.mem_map.mp he
  rfl

theorem clearedHolds_zero (s : State) (m t : Nat) : ∀ e ∈ s.clearedHolds m t, e.2 = 0 := fun e he => by
  obtain ⟨h, -, rfl⟩ := List.mem_map.mp he
  rfl

theorem State.releaseBaskets_keep (hend : ∀ u e, P u → P (State.endHold u e 0))
    (hfree : ∀ u n, P u → P (State.freeBasket u n))
    (bs : List Basket) (h : P s) : P (s.releaseBaskets bs) := by
  induction bs generalizing s with
  | nil => exact h
  | cons b rest ih => exact ih (hfree _ b.number (State.endHolds_keep hend (releaseEnds_zero s b) h))

/-- What the end of a hold with nothing taken and a freed basket keep, TERMINAL_CLEAR keeps (R89). -/
theorem State.terminalClear_keep (hend : ∀ u e, P u → P (State.endHold u e 0))
    (hfree : ∀ u n, P u → P (State.freeBasket u n))
    (m t : Nat) (h : P s) : P (s.terminalCleared m t) :=
  State.endHolds_keep hend (clearedHolds_zero _ m t) (State.releaseBaskets_keep hend hfree _ h)

end

/-! ### The holds that remain -/

section
variable {s : State} {h : Hold} {b : Basket} {m t : Nat}

theorem State.endHolds_holds (s : State) (ends : List (Hold × Nat)) :
    (s.endHolds ends).hold.holds = s.hold.holds.filter (fun h => ends.all (fun e => e.1.number ≠ h.number)) := by
  induction ends generalizing s with
  | nil => simp [State.endHolds]
  | cons e rest ih =>
    rw [State.endHolds_cons, ih, State.endHold_holds, List.filter_filter]
    refine List.filter_congr fun h _ => ?_
    rw [List.all_cons, Bool.and_comm]
    simp [eq_comm]

/-- The holds that a released basket ends are those that carry its members' numbers (R86). -/
theorem releaseEnds_spare (hh : h ∈ s.hold.holds) (b : Basket) :
    (s.releaseEnds b).all (fun e => e.1.number ≠ h.number) = decide (h.number ∉ b.members) := by
  rw [Bool.eq_iff_iff, List.all_eq_true, decide_eq_true_eq]
  constructor
  · intro hall hm
    have hsome : (s.hold.holdEntry h.number).isSome := List.find?_isSome.mpr ⟨h, hh, decide_eq_true rfl⟩
    obtain ⟨x, hx⟩ := Option.isSome_iff_exists.mp hsome
    have hmem : (x, 0) ∈ s.releaseEnds b := List.mem_map.mpr ⟨x, List.mem_filterMap.mpr ⟨h.number, hm, hx⟩, rfl⟩
    exact of_decide_eq_true (hall _ hmem) (holdEntry_spec hx).2
  · intro hm e he
    obtain ⟨x, hx, rfl⟩ := List.mem_map.mp he
    obtain ⟨n, hn, hx⟩ := List.mem_filterMap.mp hx
    refine decide_eq_true fun hnum => hm ?_
    rwa [← hnum, (holdEntry_spec hx).2]

theorem State.releaseBasket_holds (s : State) (b : Basket) :
    (s.releaseBasket b).hold.holds = s.hold.holds.filter (fun h => h.number ∉ b.members) := by
  show (s.endHolds (s.releaseEnds b)).hold.holds = _
  rw [State.endHolds_holds]
  exact List.filter_congr fun h hh => releaseEnds_spare hh b

theorem State.releaseBaskets_holds (s : State) (bs : List Basket) :
    (s.releaseBaskets bs).hold.holds = s.hold.holds.filter (fun h => bs.all (fun b => h.number ∉ b.members)) := by
  induction bs generalizing s with
  | nil => simp [State.releaseBaskets]
  | cons b rest ih =>
    show ((s.releaseBasket b).releaseBaskets rest).hold.holds = _
    rw [ih, State.releaseBasket_holds, List.filter_filter]
    refine List.filter_congr fun h _ => ?_
    rw [List.all_cons, Bool.and_comm]

/-- The holds that the first pass of TERMINAL_CLEAR leaves, by what it ends (R89). -/
theorem State.clearBaskets_holds (s : State) (m t : Nat) : (s.clearBaskets m t).hold.holds =
    s.hold.holds.filter (fun h => (s.clearedMembers m t).all (fun e => e.1.number ≠ h.number)) := by
  refine (s.releaseBaskets_holds _).trans (List.filter_congr fun h hh => ?_)
  rw [State.clearedMembers, List.all_flatMap]
  exact congrArg _ (funext fun b => (releaseEnds_spare hh b).symm)

/-- The holds that TERMINAL_CLEAR leaves, by what both passes end (R89). -/
theorem State.terminalClear_holds (s : State) (m t : Nat) :
    (s.terminalCleared m t).hold.holds = s.hold.holds.filter (fun h =>
      (s.clearedMembers m t ++ (s.clearBaskets m t).clearedHolds m t).all (fun e => e.1.number ≠ h.number)) := by
  rw [State.endHolds_holds, State.clearBaskets_holds, List.filter_filter]
  refine List.filter_congr fun h _ => ?_
  rw [List.all_append, Bool.and_comm]

theorem mem_clearedMembers {e : Hold × Nat} (he : e ∈ s.clearedMembers m t) :
    e.2 = 0 ∧ e.1 ∈ s.hold.holds ∧ ∃ b ∈ s.hold.terminalBaskets m t, e.1.number ∈ b.members := by
  obtain ⟨b, hb, he⟩ := List.mem_flatMap.mp he
  obtain ⟨h, hh, rfl⟩ := List.mem_map.mp he
  obtain ⟨n, hn, hf⟩ := List.mem_filterMap.mp hh
  obtain ⟨hmem, rfl⟩ := holdEntry_spec hf
  exact ⟨rfl, hmem, b, hb, hn⟩

theorem mem_terminalHolds {T : HoldTable} :
    h ∈ T.terminalHolds m t ↔ h ∈ T.holds ∧ h.state = .opened ∧ h.merchant = m ∧ h.terminal = t := by
  simp [HoldTable.terminalHolds, and_assoc]

theorem mem_terminalBaskets {T : HoldTable} :
    b ∈ T.terminalBaskets m t ↔ b ∈ T.baskets ∧ b.state = .opened ∧ b.merchant = m ∧ b.terminal = t := by
  simp [HoldTable.terminalBaskets, and_assoc]

theorem mem_clearedHolds {e : Hold × Nat} : e ∈ s.clearedHolds m t ↔
    e.2 = 0 ∧ e.1 ∈ s.hold.holds ∧ e.1.state = .opened ∧ e.1.merchant = m ∧ e.1.terminal = t := by
  rw [State.clearedHolds, List.mem_map, ← mem_terminalHolds]
  constructor
  · rintro ⟨h, hh, rfl⟩
    exact ⟨rfl, hh⟩
  · rintro ⟨hz, hh⟩
    exact ⟨e.1, hh, by rw [← hz]⟩

/-! ### The baskets that remain -/

/-- Every basket of the Hold Table stood in `s`, with its number, state, merchant and terminal. -/
def State.BasketsFrom (s u : State) : Prop := ∀ k ∈ u.hold.baskets, ∃ b ∈ s.hold.baskets,
  b.number = k.number ∧ b.state = k.state ∧ b.merchant = k.merchant ∧ b.terminal = k.terminal

theorem State.BasketsFrom.endHold {u : State} (hf : s.BasketsFrom u) (e : Hold) (taken : Nat) :
    s.BasketsFrom (u.endHold e taken) := fun k hk => by
  rw [State.endHold_hold] at hk
  rcases mem_freeHold_baskets hk with hk | ⟨c, hc, rfl⟩
  · exact hf k hk
  · exact hf c hc

theorem State.BasketsFrom.freeBasket {u : State} (hf : s.BasketsFrom u) (n : Nat) : s.BasketsFrom (u.freeBasket n) :=
  fun k hk => hf k (List.mem_filter.mp hk).1

/-- No basket carries the number `n`. -/
def State.NoBasket (n : Nat) (u : State) : Prop := ∀ k ∈ u.hold.baskets, k.number ≠ n

theorem State.NoBasket.endHold {u : State} {n : Nat} (hf : u.NoBasket n) (e : Hold) (taken : Nat) :
    (u.endHold e taken).NoBasket n := fun k hk => by
  rw [State.endHold_hold] at hk
  rcases mem_freeHold_baskets hk with hk | ⟨c, hc, rfl⟩
  · exact hf k hk
  · exact hf c hc

theorem State.NoBasket.freeBasket {u : State} {n : Nat} (hf : u.NoBasket n) (j : Nat) : (u.freeBasket j).NoBasket n :=
  fun k hk => hf k (List.mem_filter.mp hk).1

theorem State.freeBasket_none (s : State) (n : Nat) : (s.freeBasket n).NoBasket n := fun k hk => by
  simpa using (List.mem_filter.mp hk).2

/-- A released basket is gone, whatever is released before and after it (R86). -/
theorem State.releaseBaskets_none {bs : List Basket} (hb : b ∈ bs) : (s.releaseBaskets bs).NoBasket b.number := by
  induction bs generalizing s with
  | nil => cases hb
  | cons k rest ih =>
    rcases List.mem_cons.mp hb with rfl | hb
    · exact State.releaseBaskets_keep (P := State.NoBasket b.number) (fun _ e hu => hu.endHold e 0)
        (fun _ n hu => hu.freeBasket n) rest (State.freeBasket_none _ _)
    · exact ih hb

/-- TERMINAL_CLEAR leaves no OPEN basket of the terminal (R89). -/
theorem State.terminalClear_baskets {k : Basket}
    (hk : k ∈ (s.terminalCleared m t).hold.baskets) : ¬ (k.state = .opened ∧ k.merchant = m ∧ k.terminal = t) := by
  rintro ⟨ho, hm, ht⟩
  obtain ⟨b, hb, hn, hs, hbm, hbt⟩ := State.terminalClear_keep (P := s.BasketsFrom) (fun _ e hu => hu.endHold e 0)
    (fun _ n hu => hu.freeBasket n) m t (fun b hb => ⟨b, hb, rfl, rfl, rfl, rfl⟩) k hk
  have hterminal : b ∈ s.hold.terminalBaskets m t :=
    mem_terminalBaskets.mpr ⟨hb, hs.trans ho, hbm.trans hm, hbt.trans ht⟩
  exact State.endHolds_keep (P := State.NoBasket b.number) (fun _ e hu => hu.endHold e 0) (clearedHolds_zero _ m t)
    (State.releaseBaskets_none hterminal) k hk hn.symm

/-- TERMINAL_CLEAR leaves no OPEN hold of the terminal (R89). -/
theorem State.terminalClear_leaves_none
    (hh : h ∈ (s.terminalCleared m t).hold.holds) :
    ¬ (h.state = .opened ∧ h.merchant = m ∧ h.terminal = t) := fun hopen => by
  obtain ⟨hmem, hspared⟩ := State.mem_endHolds.mp hh
  exact hspared (h, 0) (mem_clearedHolds.mpr ⟨rfl, hmem, hopen⟩) rfl

/-- No member of a released basket of the terminal remains (R89). -/
theorem State.terminalClear_members (hb : b ∈ s.hold.terminalBaskets m t) {n : Nat} (hn : n ∈ b.members)
    (hh : h ∈ (s.terminalCleared m t).hold.holds) : h.number ≠ n := by
  rintro rfl
  have hv : h ∈ (s.releaseBaskets (s.hold.terminalBaskets m t)).hold.holds := (State.mem_endHolds.mp hh).1
  rw [State.releaseBaskets_holds] at hv
  exact of_decide_eq_true (List.all_eq_true.mp (List.mem_filter.mp hv).2 b hb) hn

end

/-! ### What stays -/

theorem State.HoldsOnly.trans {s t u : State} (h : s.HoldsOnly t) (k : t.HoldsOnly u) : s.HoldsOnly u := by
  unfold State.HoldsOnly at *
  rw [k, h]

theorem State.freeBasket_only (s : State) (n : Nat) : s.HoldsOnly (s.freeBasket n) := rfl

/-- TERMINAL_CLEAR changes cards, merchants, the Hold Table and latched conditions alone. -/
theorem State.terminalClear_only (s : State) (m t : Nat) :
    s.HoldsOnly (s.terminalCleared m t) :=
  State.terminalClear_keep (P := s.HoldsOnly) (fun u e hu => hu.trans (u.endHold_only e 0))
    (fun u n hu => hu.trans (u.freeBasket_only n)) m t rfl

/-- The sums of a position that an expiry never moves (R21). -/
def Position.trade (p : Position) : Position := { p with promoLapsed := 0, breakage := 0 }

/-- The merchant table is formed, and in every position the sums that an expiry never moves stand as in `s`. -/
structure State.TradeKept (s u : State) : Prop where
  formed : tableWfD Merchant.unlisted u.merchants
  trade : ∀ i, (u.merchant i).position.trade = (s.merchant i).position.trade

/-- The postings that an expiry makes (R21). -/
def Posting.isExpiry : Posting → Bool
  | .promoLapsed .. | .breakage _ | .sponsoredDown .. | .paidDown _ | .promoDown _ => true
  | _ => false

section
variable {s u : State}

theorem State.TradeKept.refl (h : tableWfD Merchant.unlisted s.merchants) : s.TradeKept s := ⟨h, fun _ => rfl⟩

theorem State.TradeKept.sum (h : s.TradeKept u) (i : Nat) (g : Position → Nat) (hg : ∀ p, g p.trade = g p) :
    g (u.merchant i).position = g (s.merchant i).position := by
  rw [← hg, h.trade, hg]

theorem State.TradeKept.congr (h : s.TradeKept u) {v : State} (hv : v.merchants = u.merchants) : s.TradeKept v := by
  refine ⟨hv ▸ h.formed, fun i => ?_⟩
  have e : v.merchant i = u.merchant i := congrArg (tableGet Merchant.unlisted · i) hv
  rw [e, h.trade]

/-- A merchant's record written so that its position keeps those sums. -/
theorem State.TradeKept.onMerchant (h : s.TradeKept u) (i : Nat) {g : Merchant → Merchant}
    (hg : (g (u.merchant i)).position.trade = (u.merchant i).position.trade) : s.TradeKept (u.onMerchant i g) := by
  refine ⟨tableWfD_set _ _ _ _ h.formed, fun j => ?_⟩
  rw [State.onMerchant_merchant h.formed.1]
  split
  · next e => rw [hg, e, h.trade]
  · exact h.trade j

theorem State.TradeKept.raiseIf (h : s.TradeKept u) (b : Bool) (c : Condition) : s.TradeKept (u.raiseIf b c) :=
  h.congr (u.raiseIf_merchants b c)

theorem State.TradeKept.post (h : s.TradeKept u) {p : Posting} (hp : p.isExpiry = true) : s.TradeKept (u.post p) := by
  cases p
  case promoLapsed i a => exact (h.onMerchant i rfl).raiseIf _ _
  case breakage a => exact (h.onMerchant 0 rfl).raiseIf _ _
  case sponsoredDown i a => exact h.onMerchant i (g := fun m => { m with sponsored := sub48 m.sponsored a }) rfl
  case paidDown | promoDown => exact h.congr rfl
  all_goals cases hp

theorem State.TradeKept.postAll (h : s.TradeKept u) {ps : List Posting} (hp : ∀ p ∈ ps, p.isExpiry = true) :
    s.TradeKept (u.postAll ps) := by
  induction ps generalizing u with
  | nil => exact h
  | cons p ps ih => exact ih (h.post (hp p List.mem_cons_self)) fun q hq => hp q (List.mem_cons_of_mem p hq)

theorem expiryPostings_isExpiry (k : LotKey) (n : Nat) : ∀ p ∈ expiryPostings k n, p.isExpiry = true := by
  unfold expiryPostings
  split
  · nofun
  · split <;> simp [Posting.isExpiry]

theorem splitParts_zero_taken {parts : List Part} : ∀ p ∈ splitParts 0 parts, p.taken = 0 := by
  induction parts with
  | nil => nofun
  | cons q rest ih => simpa [splitParts] using ih

/-- The end of a hold with nothing taken posts expiry alone (R23, R58). -/
theorem endPostings_zero_isExpiry (today : Option Nat) (parts : List Part) (lots : List Lot) :
    ∀ p ∈ endPostings today (splitParts 0 parts) lots, p.isExpiry = true := by
  intro p hp
  rcases List.mem_append.mp hp with hp | hp
  · obtain ⟨l, -, hp⟩ := List.mem_flatMap.mp hp
    unfold lotPostings at hp
    split at hp
    · exact expiryPostings_isExpiry _ _ p hp
    · cases hp
  · obtain ⟨q, hq, hp⟩ := List.mem_flatMap.mp hp
    rw [PartEnd.postings, splitParts_zero_taken q hq, takenPostings, if_pos rfl, List.append_nil] at hp
    exact expiryPostings_isExpiry _ _ p hp

theorem State.TradeKept.lowerHolds (h : s.TradeKept u) (i : Nat) :
    s.TradeKept (u.onMerchant i (fun m => { m with openHolds := m.openHolds - 1 })) := h.onMerchant i rfl

theorem State.TradeKept.endHold (h : s.TradeKept u) (e : Hold) : s.TradeKept (u.endHold e 0) := by
  cases hc : u.cardAt e.slot with
  | none =>
    simp only [State.endHold, State.endOnCard, hc]
    refine .lowerHolds ?_ _
    exact h.congr rfl
  | some c =>
    rw [State.endHold_found hc]
    have hp : s.TradeKept (endPosted u e 0 c) := h.postAll (endPostings_zero_isExpiry _ _ _)
    refine .lowerHolds ?_ _
    exact hp.congr (State.closingCheck_merchants ..)

/-- TERMINAL_CLEAR posts no take, and no sale and no refund (R89). -/
theorem State.terminalClear_trade (h : tableWfD Merchant.unlisted s.merchants) (m t : Nat) :
    s.TradeKept (s.terminalCleared m t) :=
  State.terminalClear_keep (P := s.TradeKept) (fun _ e hu => hu.endHold e) (fun _ _ hu => hu.congr rfl) m t (.refl h)

end

/-- TERMINAL_CLEAR, when each of its tests is passed. -/
theorem terminalClearUnit_accepted {s : State} {m t : Nat} (hr : s.store.state = .ready) (hs : s.clock.isSet = true)
    (hm : m < 512) (ht : t ≤ 65535) :
    let first := s.clearedMembers m t
    let second := (s.clearBaskets m t).clearedHolds m t
    let r := totalReport (s.endReports (first ++ second))
    terminalClearUnit m t s =
      (⟨.ok, field 2 (first ++ second).length ++ field 2 (s.hold.terminalBaskets m t).length
        ++ centsField r.returned ++ centsField r.expired⟩, s.terminalCleared m t) := by
  have hrange : (indexInRange m && decide (t ≤ 65535)) = true := by simp [indexInRange, hm, ht]
  simp only [terminalClearUnit, whenSet_set _ hr hs, hrange, Bool.not_true, Bool.false_eq_true, if_false]

/-- Settles O37, from what the two passes end, free and post. -/
theorem terminalClearLeavesNone : Obligations.TerminalClearLeavesNone := by
  intro s f m t hp hset hm ht baskets first v second u r
  have hx := s.exec_row_held (r := .terminalClear m t) hp.current hp.holds hp.carries nofun nofun
  rw [Request.work, terminalClearUnit_accepted hp.ready hset hm ht] at hx
  refine ⟨hx, fun e he => mem_clearedMembers he, fun e he => ?_, fun b hb n hn h hh => State.terminalClear_members hb hn hh,
    fun h hh => State.terminalClear_leaves_none hh, fun b hb => State.terminalClear_baskets hb, s.terminalClear_holds m t,
    s.terminalClear_only m t, fun hw i => ?_⟩
  · obtain ⟨hz, hmem, hopen⟩ := mem_clearedHolds.mp he
    rw [State.clearBaskets_holds] at hmem
    exact ⟨hz, (List.mem_filter.mp hmem).1, hopen⟩
  · have sum := (State.terminalClear_trade hw.merchants m t).sum i
    exact ⟨sum (·.redeemed) fun _ => rfl, sum (·.sponsorCost) fun _ => rfl, sum (·.feeUnits) fun _ => rfl,
      sum (·.captureCount) fun _ => rfl, sum (·.sold) fun _ => rfl, sum (·.refunded) fun _ => rfl⟩

end Sys2Proof.Machine

namespace Sys2Proof.Machine

/-! ## BASKET_CAPTURE and BASKET_RELEASE (R83 to R86) -/

/-- The shares use up the amount, or the members when they hold less (R84). -/
theorem shares_sum (c : Nat) (holds : List Hold) : ((shares c holds).map (·.2)).sum = min c (amountsOf holds) := by
  induction holds generalizing c with
  | nil => simp [shares, amountsOf]
  | cons h rest ih =>
    have hrest : amountsOf (h :: rest) = h.amount + amountsOf rest := List.sum_cons
    rw [shares, List.map_cons, List.sum_cons, ih, hrest]
    omega

/-- No member's share is above its amount (R84). -/
theorem shares_le_amount (c : Nat) (holds : List Hold) : ∀ e ∈ shares c holds, e.2 ≤ e.1.amount := by
  induction holds generalizing c with
  | nil => nofun
  | cons h rest ih => exact List.forall_mem_cons.mpr ⟨Nat.min_le_right _ _, ih _⟩

/-- BASKET_CAPTURE, when each of its tests is passed (R83 to R85). -/
theorem basketCaptureUnit_accepted {s : State} {n a : Nat} {b : Basket} (hr : s.store.state = .ready)
    (hs : s.clock.isSet = true) (hn : n ≠ 0) (hb : s.hold.openBasket n = some b) (hm : a ≤ 4000000)
    (ha : a ≤ amountsOf (s.hold.memberHolds b.members)) :
    let holds := s.hold.memberHolds b.members
    let taken := if a = 0 then amountsOf holds else a
    let ends := shares taken holds
    let r := totalReport (s.endReports ends)
    let u := ((s.endHolds ends).freeBasket n).postAll (capturePostings b.merchant taken)
    basketCaptureUnit n a s =
      (⟨.ok, field 4 n ++ field 4 taken ++ field 4 r.paid ++ field 4 r.promo ++ field 4 r.returned ++ field 4 r.expired
        ++ listBytes ((ends.zip (s.endReports ends)).map (fun e => memberBytes u e.1 e.2))⟩, u) := by
  have hvalue : ¬ (n = 0 ∨ Config.basketAmountMax < a) := not_or.mpr ⟨hn, Nat.not_lt.mpr hm⟩
  have ha : ¬ amountsOf (s.hold.memberHolds b.members) < a := Nat.not_lt.mpr ha
  simp only [basketCaptureUnit, whenSet_set _ hr hs, hvalue, hb, ha, if_false]

/-- BASKET_RELEASE of an OPEN basket (R86). -/
theorem basketReleaseUnit_accepted {s : State} {n : Nat} {b : Basket} (hr : s.store.state = .ready)
    (hs : s.clock.isSet = true) (hn : n ≠ 0) (hb : s.hold.openBasket n = some b) :
    let r := totalReport (s.endReports (s.releaseEnds b))
    basketReleaseUnit n s =
      (⟨.ok, field 4 n ++ field 2 (s.hold.memberHolds b.members).length ++ field 4 r.returned ++ field 4 r.expired⟩,
       (s.endHolds (s.releaseEnds b)).freeBasket n) := by
  obtain ⟨-, rfl, -⟩ := openBasket_spec hb
  have hlength : (s.releaseEnds b).length = (s.hold.memberHolds b.members).length := List.length_map _
  simp only [basketReleaseUnit, whenSet_set _ hr hs, hn, hb, hlength, State.releaseBasket, if_false]

/-- Settles O35. -/
theorem basketRequestsEndMembers : Obligations.BasketRequestsEndMembers := by
  intro s f n a b hset hn hb holds
  constructor
  · intro hp hm ha taken ends r u
    have hcovered : taken ≤ amountsOf holds := by
      simp only [taken]
      split
      · exact Nat.le_refl _
      · exact ha
    have hsum : (ends.map (·.2)).sum = taken := (shares_sum taken holds).trans (Nat.min_eq_left hcovered)
    have hx := s.exec_row_held (r := .basketCapture n a) hp.current hp.holds hp.carries nofun nofun
    rw [Request.work, basketCaptureUnit_accepted hp.ready hset hn hb hm ha] at hx
    exact ⟨⟨shares_holds taken holds, hsum, shares_le_amount taken holds⟩, hx⟩
  · intro hp ends r u
    have hx := s.exec_row_held (r := .basketRelease n) hp.current hp.holds hp.carries nofun nofun
    rw [Request.work, basketReleaseUnit_accepted hp.ready hset hn hb] at hx
    exact ⟨State.freeBasket_none (s.endHolds ends) n, hx⟩

end Sys2Proof.Machine

namespace Sys2Proof.Machine

/-! ## Requests that read, and requests that write one merchant record (R95 to R100, R113, R138, R196) -/

/-- A request in progress completes with the answer and the state of its work, where its kind has one row. -/
theorem State.InProgress.exec_of_work {s u : State} {f : Frame} {r : Request} {reply : Reply} (h : s.InProgress f r)
    (hw : r.work s = (reply, u)) (hwatch : r.kind ≠ .watchSet := by nofun) (hstage : r.kind ≠ .scheduleStage := by nofun) :
    exec r.row s = .next (u.completeRequest f reply) := by
  rw [s.exec_row_held h.current h.holds h.carries hwatch hstage, hw]

/-- A request that needs no grant completes with the answer and the state of its work. -/
theorem State.Next.exec_of_work {s u : State} {f : Frame} {rest : List Frame} {r : Request} {reply : Reply} (h : s.Next f rest)
    (hr : f.request = some r) (hg : s.frameNeedsGrant f = false) (hw : r.work (s.taken rest) = (reply, u))
    (hwatch : r.kind ≠ .watchSet := by nofun) (hstage : r.kind ≠ .scheduleStage := by nofun) :
    exec r.row s = .next (u.completeTaken f reply) := by
  obtain ⟨takes, unit, he, hu, -, ht⟩ := r.exec_row s
  rw [he, ht hwatch hstage, h.serve_eq hr hg, hu, hw]

theorem merchantReadUnit_accepted {s : State} {i : Nat} (hr : s.store.state = .ready) (hi : i < 512) :
    merchantReadUnit i s = (⟨.ok, merchantBody (s.merchant i) s.period.number⟩, s) := by
  rw [merchantReadUnit, whenReady_ready _ hr, indexInRange_iff.mpr hi]
  rfl

theorem closedReadUnit_filled {s : State} {i : Nat} (hr : s.store.state = .ready) (hi : i < 512)
    (hp : s.period.snapshot.state ≠ .empty) :
    closedReadUnit i s = (⟨.ok, closedBody s.period.snapshot (s.period.snapshot.closedAt i)⟩, s) := by
  rw [closedReadUnit, whenReady_ready _ hr, indexInRange_iff.mpr hi]
  exact if_neg hp

theorem closedReadUnit_empty {s : State} {i : Nat} (hr : s.store.state = .ready) (hi : i < 512)
    (hp : s.period.snapshot.state = .empty) : closedReadUnit i s = (refuse .wrongState, s) := by
  rw [closedReadUnit, whenReady_ready _ hr, indexInRange_iff.mpr hi]
  exact if_pos hp

theorem scheduleReadUnit_accepted {s : State} {n : Nat} (hr : s.store.state = .ready) (hn : n < 8) :
    scheduleReadUnit n s = (⟨.ok, field 2 n ++ scheduleBytes (some (s.schedule n).active) ++ scheduleBytes (s.schedule n).staged
      ++ field 2 s.period.number⟩, s) := by
  have hrange : decide (n < Config.schedules) = true := decide_eq_true hn
  rw [scheduleReadUnit, whenReady_ready _ hr, hrange]
  rfl

theorem periodStatusUnit_ready {s : State} (hr : s.store.state = .ready) :
    periodStatusUnit s = (⟨.ok, s.periodBody⟩, s) := whenReady_ready _ hr

theorem configReadUnit_ready {s : State} (hr : s.store.state = .ready) :
    configReadUnit s = (⟨.ok, settingsBody s.settings⟩, s) := by
  rw [configReadUnit, hr]

theorem configReadUnit_unformatted {s : State} (hu : s.store.state = .unformatted) :
    configReadUnit s = (⟨.ok, settingsBody Settings.default⟩, s) := by
  rw [configReadUnit, hu]

/-- In UNFORMATTED only FORMAT needs a grant (R175, R182). -/
theorem State.frameNeedsGrant_unformatted {s : State} {f : Frame} {r : Request} (hu : s.store.state = .unformatted)
    (hr : f.request = some r) (hk : r.kind ≠ .format) : s.frameNeedsGrant f = false := by
  simp [State.frameNeedsGrant, Frame.kind_of_request hr, hu, hk]

/-- Settles O39. -/
theorem readsChangeNothing : Obligations.ReadsChangeNothing := by
  intro s f i
  refine ⟨fun hp hi => ?_, fun hp hi hs => ?_, fun hp hi hs => ?_, fun hp hi => ?_, fun hp => ?_, fun hp => ?_,
    fun rest hr hn hu => ?_⟩
  · exact hp.exec_of_work (merchantReadUnit_accepted hp.ready hi)
  · exact hp.exec_of_work (closedReadUnit_filled hp.ready hi hs)
  · exact hp.exec_of_work (closedReadUnit_empty hp.ready hi hs)
  · exact hp.exec_of_work (scheduleReadUnit_accepted hp.ready hi)
  · exact hp.exec_of_work (periodStatusUnit_ready hp.ready)
  · exact hp.exec_of_work (configReadUnit_ready hp.ready)
  · exact hn.exec_of_work hr (State.frameNeedsGrant_unformatted hu hr nofun) (configReadUnit_unformatted hu)

/-- A merchant record after an accepted MERCHANT_SET: afresh when the index was UNLISTED, else updated (R96, R97). -/
def Merchant.afterSet (m : Merchant) (i : Nat) (state : MerchantState) (sc al ref : Nat) : Merchant :=
  if m.state = .unlisted then listedMerchant i state sc al ref else updatedMerchant i state sc al ref m

/-- The fields that MERCHANT_SET writes as they are carried, whether the index was listed or not (R96, R97). -/
theorem Merchant.afterSet_carried (m : Merchant) (i : Nat) (state : MerchantState) (sc al ref : Nat) :
    (m.afterSet i state sc al ref).state = state ∧ (m.afterSet i state sc al ref).allowance = al ∧
      (m.afterSet i state sc al ref).payoutRef = ref := by
  unfold Merchant.afterSet
  split <;> exact ⟨rfl, rfl, rfl⟩

/-- MERCHANT_SET names a state by 1 or 2 (R95). -/
theorem namedState_value {st : Nat} (h : st = 1 ∨ st = 2) :
    namedState st = some (if st = 1 then .active else .suspended) ∧
      (if st = 1 then MerchantState.active else .suspended).value = st := by
  rcases h with rfl | rfl <;> exact ⟨rfl, rfl⟩

/-- MERCHANT_SET, when each of its tests is passed (R94 to R97). -/
theorem merchantSetUnit_accepted {s : State} {i st sc al : Nat} (ref : Nat) (hr : s.store.state = .ready)
    (hst : st = 1 ∨ st = 2) (hi : i < 512) (hop : i = 0 → st = 1) (hsc : sc < 8) (hal : al ≤ 1000000) :
    let new := (s.merchant i).afterSet i (if st = 1 then .active else .suspended) sc al ref
    merchantSetUnit i st sc al ref s =
      (⟨.ok, field 1 (if (s.merchant i).state = .unlisted then 0 else 1) ++ field 1 st ++ field 2 new.schedule
          ++ fieldBytes 2 new.nextSchedule ++ field 4 al ++ field 4 ref⟩, s.setMerchant i new) := by
  intro new
  obtain ⟨hname, hvalue⟩ := namedState_value hst
  obtain ⟨hstate, hallowance, href⟩ : new.state = _ ∧ new.allowance = al ∧ new.payoutRef = ref :=
    Merchant.afterSet_carried ..
  have hrange : (indexInRange i && decide (sc < Config.schedules) && decide (al ≤ Config.allowanceMax)) = true := by
    simp [hsc, hal, indexInRange_iff.mpr hi]
  have hoperator : ¬ (i = 0 ∧ (if st = 1 then MerchantState.active else .suspended) ≠ .active) :=
    fun h => h.2 (if_pos (hop h.1))
  rw [merchantSetUnit, whenReady_ready _ hr]
  simp only [hname, hrange, hoperator, Bool.not_true, Bool.false_eq_true, if_false]
  rw [← Merchant.afterSet, hstate, hvalue, hallowance, href]

/-- MERCHANT_REMOVE of an index other than the operator's goes by what the index still carries (R98). -/
theorem merchantRemoveUnit_eq {s : State} {i : Nat} (hr : s.store.state = .ready) (hi : indexInRange i = true) (h0 : i ≠ 0) :
    merchantRemoveUnit i s =
      if (s.merchant i).openHolds ≠ 0 ∨ (s.merchant i).position ≠ Position.zero ∨ (s.merchant i).sponsored ≠ 0 then
        (refuse .wrongState, s)
      else (⟨.ok, [1#8, 0#8] ++ field 1 (if (s.merchant i).state = .unlisted then 1 else 0)⟩,
        s.setMerchant i Merchant.unlisted) := by
  rw [merchantRemoveUnit, whenReady_ready _ hr]
  simp only [hi, h0, Bool.not_true, decide_false, Bool.or_self, Bool.false_eq_true, if_false]
  rfl

/-- A write of one merchant record, seen whole: its record is the one written, and nothing else differs. -/
theorem State.setMerchant_spec (s : State) (h : tableWf s.merchants) (i : Nat) (m : Merchant) :
    s.setMerchant i m = { s with merchants := (s.setMerchant i m).merchants } ∧ (s.setMerchant i m).merchant i = m ∧
      ∀ j, j ≠ i → (s.setMerchant i m).merchant j = s.merchant j :=
  ⟨rfl, State.setMerchant_self h i m, fun _ => State.setMerchant_ne m⟩

/-- Settles O38. -/
theorem merchantRequestsWriteRecord : Obligations.MerchantRequestsWriteRecord := by
  intro s f i st sc al ref ht hi
  refine ⟨fun hp hst hop hsc hal => ?_, fun hp h0 hh hpos hsp => ?_, fun hp h => ?_⟩
  · exact ⟨_, hp.exec_of_work (merchantSetUnit_accepted ref hp.ready hst hi hop hsc hal),
      s.setMerchant_spec ht.merchants.1 i _⟩
  · refine ⟨s.setMerchant i Merchant.unlisted, ?_, s.setMerchant_spec ht.merchants.1 i _⟩
    have hclear : ¬ ((s.merchant i).openHolds ≠ 0 ∨ (s.merchant i).position ≠ Position.zero ∨
        (s.merchant i).sponsored ≠ 0) := by simp [hh, hpos, hsp]
    exact hp.exec_of_work ((merchantRemoveUnit_eq hp.ready (indexInRange_iff.mpr hi) h0).trans (if_neg hclear))
  · exact hp.exec_of_work ((merchantRemoveUnit_eq hp.ready (indexInRange_iff.mpr hi) h.1).trans (if_pos h.2))

end Sys2Proof.Machine

namespace Sys2Proof.Machine

/-! ## The cut (R120 to R122, R130 to R135) -/

/-! ### Tables mapped to records with a default of their own -/

/-- A record read from a table mapped to another type and filtered by that type's default, which the first default maps to. -/
theorem tableGet_map_filter {α β : Type} [DecidableEq β] {d : α} {e : β} {t : Table α} (h : tableWf t)
    (g : Nat → α → β) (i : Nat) (hd : g i d = e) :
    tableGet e ((t.map (fun x => (x.1, g x.1 x.2))).filter (fun x => x.2 ≠ e)) i = g i (tableGet d t i) := by
  unfold tableGet
  rw [tableFind_filter (tableWf_map g t h) (fun v => decide (v ≠ e)) i, tableFind_map]
  cases tableFind t i with
  | none => simp [hd]
  | some v => by_cases he : g i v = e <;> simp [Option.filter, he]

/-- Some record of a table satisfies `p` exactly when some index reads as one that does, when the default does not. -/
theorem exists_mem_iff_exists_tableGet {α : Type} {d : α} {t : Table α} (h : tableWf t) (p : α → Prop) (hd : ¬ p d) :
    (∃ e ∈ t, p e.2) ↔ ∃ i, p (tableGet d t i) := by
  constructor
  · rintro ⟨e, he, hp⟩
    refine ⟨e.1, ?_⟩
    rwa [tableGet, (tableFind_iff h e.1 e.2).mpr he]
  · rintro ⟨i, hp⟩
    cases hf : tableFind t i with
    | none => exact absurd (by simpa [tableGet, hf] using hp) hd
    | some v => exact ⟨(i, v), mem_of_tableFind hf, by simpa [tableGet, hf] using hp⟩

/-- A filter that drops only what counts nothing leaves a sum. -/
theorem sum_map_filter_of_zero {α : Type} (p : α → Prop) [DecidablePred p] (g : α → Nat) {l : List α}
    (h : ∀ x ∈ l, ¬ p x → g x = 0) : ((l.filter p).map g).sum = (l.map g).sum := by
  have hdropped : ((l.filter (fun x => ¬ p x)).map g).sum = 0 := by
    refine List.sum_eq_zero fun n hn => ?_
    obtain ⟨x, hx, rfl⟩ := List.mem_map.mp hn
    obtain ⟨hl, hp⟩ := List.mem_filter.mp hx
    exact h x hl (by simpa using hp)
  rw [← List.sum_map_filter_add_sum_map_filter_not p g l, hdropped, Nat.add_zero]

/-! ### The closed positions (R119 to R121, R133, R135) -/

theorem feeOf_zero (c : Schedule) : feeOf c Position.zero = 0 := by
  simp [feeOf, Position.zero]

/-- An index that reads as UNLISTED closes as blank (R133). -/
theorem State.closedCopy_unlisted (s : State) (i : Nat) : s.closedCopy i Merchant.unlisted = ClosedPosition.blank := by
  have hfee : (if i = 0 then 0 else feeOf (s.schedule 0).active Position.zero) = 0 := by rw [feeOf_zero, ite_self]
  simp [State.closedCopy, Merchant.unlisted, ClosedPosition.blank, hfee]

theorem State.closedCopies_formed {s : State} (h : tableWf s.merchants) : tableWfD ClosedPosition.blank s.closedCopies :=
  ⟨(tableWf_map s.closedCopy _ h).filter _, fun e he => by simpa using (List.mem_filter.mp he).2⟩

theorem State.closedCopies_get {s : State} (h : tableWf s.merchants) (i : Nat) :
    tableGet ClosedPosition.blank s.closedCopies i = s.closedCopy i (s.merchant i) :=
  tableGet_map_filter h s.closedCopy i (s.closedCopy_unlisted i)

/-- The fees of a cut are counted over all merchant records: those that close as blank have none (R121). -/
theorem State.feeSum_closedCopies (s : State) :
    feeSum s.closedCopies = (s.merchants.map (fun e => (s.closedCopy e.1 e.2).fee)).sum := by
  unfold feeSum State.closedCopies
  rw [sum_map_filter_of_zero, List.map_map]
  · refine congrArg List.sum (List.map_congr_left fun e _ => ?_)
    by_cases h0 : e.1 = 0 <;> simp [State.closedCopy, h0]
  · intro e _ hblank
    rw [not_not.mp hblank]
    exact ite_self 0

/-- The closed position of an index before its NET is written: its copy with FEE, and at the operator FEE_INCOME (R120, R121). -/
def State.closingCopy (s : State) (i : Nat) : ClosedPosition :=
  { s.closedCopy i (s.merchant i) with feeIncome := if i = 0 then min Config.sum48Max (feeSum s.closedCopies) else 0 }

theorem State.withFeeIncome_get {s : State} (h : tableWf s.merchants) (i : Nat) :
    tableGet ClosedPosition.blank (withFeeIncome s.closedCopies) i = s.closingCopy i := by
  unfold withFeeIncome State.closingCopy
  by_cases hi : i = 0
  · subst hi
    rw [tableGet_set_self _ _ _ _ (State.closedCopies_formed h).1, State.closedCopies_get h, Nat.min_comm, if_pos rfl]
  · rw [tableGet_set_ne _ _ _ hi, State.closedCopies_get h, if_neg hi]
    rfl

/-- NET is set to the nearer end of its range (R135). -/
theorem clampNet_eq (i : Int) : clampNet i = max netMin (min netMax i) := by
  unfold clampNet netMin netMax
  split
  · omega
  · split <;> omega

/-- A closed position with its NET written (R135). -/
def ClosedPosition.netted (c : ClosedPosition) : ClosedPosition := { c with net := clampNet (netExact c) }

/-- NET is written for every index; one that reads as blank has a NET of 0 (R135). -/
theorem withNet_get (t : Table ClosedPosition) (i : Nat) :
    tableGet ClosedPosition.blank (withNet t) i = (tableGet ClosedPosition.blank t i).netted := by
  have hfind : tableFind (withNet t) i = (tableFind t i).map ClosedPosition.netted :=
    tableFind_map t (fun _ => ClosedPosition.netted) i
  rw [tableGet, tableGet, hfind]
  cases tableFind t i <;> rfl

/-- The closed position of an index in the snapshot that a cut makes (R132, R133). -/
theorem State.closedPositions_get {s : State} (h : tableWf s.merchants) (i : Nat) :
    tableGet ClosedPosition.blank s.closedPositions i = (s.closingCopy i).netted := by
  rw [State.closedPositions, withNet_get, State.withFeeIncome_get h]

/-- A cut saturates when the fees pass FEE_INCOME's maximum or the NET of some index lies outside its range (R121, R135). -/
theorem State.cutSaturates_iff {s : State} (h : tableWf s.merchants) :
    s.cutSaturates = true ↔ Config.sum48Max < feeSum s.closedCopies ∨
      ∃ i, netExact (s.closingCopy i) < netMin ∨ netMax < netExact (s.closingCopy i) := by
  have formed : tableWf (withFeeIncome s.closedCopies) := (tableWfD_set _ _ 0 _ (State.closedCopies_formed h)).1
  have houtside := exists_mem_iff_exists_tableGet formed (fun c => netExact c < netMin ∨ netMax < netExact c)
    (d := ClosedPosition.blank) (by decide)
  simp only [State.withFeeIncome_get h] at houtside
  rw [← houtside]
  simp [State.cutSaturates, netOutside]

/-! ### The state after the cut (R132) -/

/-- The state after a cut, before CUT_TAKEN is delivered (R132). -/
def State.cutMade (s : State) : State :=
  ({ s with
      period := s.cutPeriod
      merchants := tableMap Merchant.unlisted (fun _ m => m.afterCut) s.merchants
      schedules := tableMap ScheduleEntry.blank (fun _ e => e.afterCut) s.schedules } : State).raiseIf s.cutSaturates .saturated

theorem State.takeCut_eq (s : State) : s.takeCut = s.cutMade.deliver .cutTaken := rfl

/-- A cut changes the period, merchants, schedules and latched conditions alone. -/
theorem State.cutMade_only (s : State) : s.cutMade = { s with
    period := s.cutMade.period, merchants := s.cutMade.merchants, schedules := s.cutMade.schedules
    link := { s.link with latched := s.cutMade.link.latched } } := by
  unfold State.cutMade
  cases s.cutSaturates <;> rfl

@[simp] theorem State.cutMade_period (s : State) : s.cutMade.period = s.cutPeriod := State.raiseIf_period ..

theorem State.cutMade_merchant {s : State} (h : tableWf s.merchants) (i : Nat) : s.cutMade.merchant i = (s.merchant i).afterCut :=
  (State.raiseIf_merchant ..).trans (tableGet_map Merchant.unlisted (fun _ m => m.afterCut) h i rfl)

theorem State.cutMade_schedule {s : State} (h : tableWf s.schedules) (n : Nat) :
    s.cutMade.schedule n = (s.schedule n).afterCut := by
  unfold State.schedule State.cutMade
  rw [State.raiseIf_schedules]
  exact tableGet_map ScheduleEntry.blank (fun _ e => e.afterCut) h n rfl

/-- A cut latches SATURATED exactly when it saturates (R121, R135). -/
theorem State.cutMade_latched {s : State} {q : Prop} (h : s.cutSaturates = true ↔ q) :
    (q → s.cutMade.link.latched = s.link.latched ||| 2048#16) ∧ (¬ q → s.cutMade.link.latched = s.link.latched) := by
  obtain ⟨hraised, hstays⟩ := State.raiseIf_saturated (l := s.link) (s := { s with
      period := s.cutPeriod
      merchants := tableMap Merchant.unlisted (fun _ m => m.afterCut) s.merchants
      schedules := tableMap ScheduleEntry.blank (fun _ e => e.afterCut) s.schedules }) h rfl
  exact ⟨fun hq => congrArg Link.latched (hraised hq), fun hq => congrArg Link.latched (hstays hq)⟩

/-- The row CUT carries out the unit that the Period Controller holds the store for (R130). -/
theorem exec_cut_held {s : State} (h : s.arbiter.holder = some .periodController) :
    exec .cut s = .next (s.cutWork.completeUnit false) := congrArg _ (if_pos h)

/-- Settles O43. -/
theorem cutClosesOrDefers : Obligations.CutClosesOrDefers := by
  intro s hh ht fee fees income net outside
  have hm := ht.merchants.1
  have hfees : feeSum s.closedCopies = fees := s.feeSum_closedCopies
  have hcopy : ∀ i, s.closingCopy i = { s.closedCopy i (s.merchant i) with feeIncome := income i } := fun i => by
    rw [State.closingCopy, hfees]
  have hnet : ∀ i, netExact (s.closingCopy i) = net i := fun i => by rw [hcopy]; rfl
  refine ⟨fun hs => ?deferred, fun hs => ⟨s.cutMade, ?taken, s.cutMade_only, ?_⟩⟩
  case deferred =>
    rw [exec_cut_held hh, State.cutWork, if_neg hs]
    rfl
  case taken => rw [exec_cut_held hh, State.cutWork, if_pos hs, State.takeCut_eq]
  have hsaturates : s.cutSaturates = true ↔ 281474976710655 < fees ∨ ∃ i, outside i := by
    rw [State.cutSaturates_iff hm, hfees]
    simp only [hnet]
    rfl
  have hclosed : ∀ i, s.cutMade.period.snapshot.closedAt i =
      { s.closedCopy i (s.merchant i) with feeIncome := income i, net := max netMin (min netMax (net i)) } := fun i => by
    rw [State.cutMade_period]
    refine (State.closedPositions_get hm i).trans ?_
    rw [ClosedPosition.netted, hnet, hcopy, clampNet_eq]
  refine ⟨?_, ?_, ?_, ?_, ?_, ?_, ?_, ?_, ?_, ?_, ?_, ?_, ?_, fun i => ?closed, State.cutMade_schedule ht.schedules.1,
    State.cutMade_latched hsaturates⟩
  case closed =>
    rw [hclosed]
    exact ⟨rfl, rfl, rfl, rfl, by simp [State.closedCopy], rfl, rfl, State.cutMade_merchant hm i⟩
  all_goals rw [State.cutMade_period]; rfl

end Sys2Proof.Machine

namespace Sys2Proof.Machine

/-! ## SCHEDULE_STAGE (R109, R111, R112) -/

/-- The fields that SCHEDULE_STAGE reads as a request are those the request carries. -/
theorem scheduleStageOf_fields {fields : List (Option Nat)} {r : Request} (h : scheduleStageOf fields = some r) :
    fields = r.fields := by
  unfold scheduleStageOf at h
  split at h
  · split at h
    · next hwrite =>
      obtain ⟨c, hc, rfl⟩ := Option.map_eq_some_iff.mp h
      unfold scheduleOf at hc
      split at hc
      · cases hc; rw [hwrite]; rfl
      · cases hc
    split at h
    · next hclear =>
      split at h
      · next habsent => cases h; rw [hclear, habsent]; rfl
      · cases h
    · cases h
  · cases h

/-- The frame of a SCHEDULE_STAGE request is taken by the row of its operation. -/
theorem Frame.isOperation_scheduleStage {f : Frame} {r : Request} (h : f.request = some r) (hk : r.kind = .scheduleStage)
    {op : Nat} {rest : List (Option Nat)} (ho : r.fields = some op :: rest) (last : Nat) :
    f.isOperation .scheduleStage op last = true := by
  have hkind : kindOf f.kind = some .scheduleStage := hk ▸ Frame.kind_of_request h
  have hread : readRequest .scheduleStage f.body = some r := by simpa [Frame.request, hkind] using h
  obtain ⟨fields, hfields, hr⟩ := Option.bind_eq_some_iff.mp hread
  rw [scheduleStageOf_fields hr, ho] at hfields
  simp [Frame.isOperation, Frame.isKind, hkind, leadingByte_of_readFields hfields]

/-- A SCHEDULE_STAGE request in progress is completed by the unit of its operation's row, with the answer and the state that the
unit gives. -/
theorem State.InProgress.serve_scheduleStage {s u : State} {f : Frame} {r : Request} {reply : Reply} (h : s.InProgress f r)
    (hk : r.kind = .scheduleStage) {op : Nat} {rest : List (Option Nat)} (ho : r.fields = some op :: rest) {last : Nat}
    {unit : Request → State → Reply × State} (hu : unit r s = (reply, u)) :
    s.serve (Frame.isOperation .scheduleStage op last) (wellFormedOr unit) = u.completeRequest f reply := by
  rw [s.serve_inProgress _ _ h.current h.holds (Frame.isOperation_scheduleStage h.carries hk ho last),
    wellFormedOr_some _ _ h.carries, hu]

/-- SCHEDULE_STAGE with WRITE, when each of its tests is passed: STAGED, or REPLACED over a staged copy (R112). -/
theorem scheduleWriteUnit_accepted {s : State} {n : Nat} {c : Schedule} (hr : s.store.state = .ready) (hn : n < 8)
    (hc : c.inRange = true) :
    scheduleWriteUnit n c s =
      (⟨.ok, field 2 n ++ field 1 (if (s.schedule n).staged = none then 0 else 1) ++ scheduleBytes (some c)⟩,
        s.stageSchedule n (some c)) := by
  have hrange : decide (n < Config.schedules) = true := decide_eq_true hn
  rw [scheduleWriteUnit, whenReady_ready _ hr, hrange, hc]
  cases hs : (s.schedule n).staged <;> simp [stageReply, hs]

/-- SCHEDULE_STAGE with CLEAR, when its test is passed: NONE, or WITHDRAWN of a staged copy (R112). -/
theorem scheduleClearUnit_accepted {s : State} {n : Nat} (hr : s.store.state = .ready) (hn : n < 8) :
    scheduleClearUnit n s =
      (⟨.ok, field 2 n ++ field 1 (if (s.schedule n).staged = none then 3 else 2) ++ scheduleBytes none⟩,
        s.stageSchedule n none) := by
  have hrange : decide (n < Config.schedules) = true := decide_eq_true hn
  rw [scheduleClearUnit, whenReady_ready _ hr, hrange]
  cases hs : (s.schedule n).staged <;> simp [stageReply, hs]

/-- A staged copy written or withdrawn, seen whole: the active copy, the other schedules and all else stay. -/
theorem State.stageSchedule_spec {s : State} (h : tableWf s.schedules) (n : Nat) (copy : Option Schedule) :
    s.stageSchedule n copy = { s with schedules := (s.stageSchedule n copy).schedules } ∧
      (s.stageSchedule n copy).schedule n = ⟨(s.schedule n).active, copy⟩ ∧
      ∀ k, k ≠ n → (s.stageSchedule n copy).schedule k = s.schedule k :=
  ⟨rfl, tableGet_set_self _ _ _ _ h, fun _ => tableGet_set_ne _ _ _⟩

/-- Settles O40, from the unit of each operation and the one table entry it writes. -/
theorem scheduleStageWritesStagedCopy : Obligations.ScheduleStageWritesStagedCopy := by
  intro s f n c ht hn
  have hspec := State.stageSchedule_spec ht.schedules.1 n
  refine ⟨fun hp hc => ⟨_, congrArg Host.Outcome.next ?write, hspec (some c)⟩,
    fun hp => ⟨_, congrArg Host.Outcome.next ?clear, hspec none⟩⟩
  case write => exact hp.serve_scheduleStage rfl rfl (scheduleWriteUnit_accepted hp.ready hn hc)
  case clear => exact hp.serve_scheduleStage rfl rfl (scheduleClearUnit_accepted hp.ready hn)

end Sys2Proof.Machine

namespace Sys2Proof.Machine

/-! ## The arithmetic of the Fee Unit (R115, R116, R118 to R120) -/

/-- The overlap with a tier adds up over a volume divided at `m`. -/
theorem overlap_split {v m w : Nat} (hv : v ≤ m) (hw : m ≤ w) (lo hi : Nat) :
    overlap v w lo hi = overlap v m lo hi + overlap m w lo hi := by
  unfold overlap
  omega

/-- One cent lies below a tier, in it, or above it. -/
theorem overlap_cent (v lo hi : Nat) :
    overlap v (v + 1) lo hi = if v < lo then 0 else if v < hi then 1 else 0 := by
  unfold overlap
  split
  · omega
  · split <;> omega

/-- Fee units do not depend on how a take is divided (R118): each tier's overlap adds up. -/
theorem tierSplit_add (c : Schedule) (v a b : Nat) : tierSplit c v (a + b) = tierSplit c v a + tierSplit c (v + a) b := by
  have tier := overlap_split (Nat.le_add_right v a) (Nat.le_add_right (v + a) b)
  have top : v + a + b - max v c.e3 = (v + a - max v c.e3) + (v + a + b - max (v + a) c.e3) := by omega
  unfold tierSplit
  rw [← Nat.add_assoc, tier, tier, tier, top]
  ring

/-- A cent is charged the rate of the one tier it lies in, as the boundaries rise (R115, R116). -/
theorem tierSplit_one (c : Schedule) (v : Nat) :
    tierSplit c v 1 = if v < c.e1 then c.r0 else if v < c.e2 then c.r1 else if v < c.e3 then c.r2 else c.r3 := by
  have h12 : c.e1 ≤ c.e2 := Nat.le_max_right ..
  have h23 : c.e2 ≤ c.e3 := Nat.le_max_right ..
  have top : v + 1 - max v c.e3 = if v < c.e3 then 0 else 1 := by split <;> omega
  simp only [tierSplit, overlap_cent, top, Nat.not_lt_zero, if_false]
  by_cases h1 : v < c.e1
  · simp [h1, h1.trans_le h12, h1.trans_le (h12.trans h23)]
  by_cases h2 : v < c.e2
  · simp [h1, h2, h2.trans_le h23]
  by_cases h3 : v < c.e3 <;> simp [h1, h2, h3]

theorem feeOf_le_redeemed (c : Schedule) (p : Position) : feeOf c p ≤ p.redeemed := Nat.min_le_right ..

/-- A cap of 0 is no cap (R120). -/
theorem feeOf_le_cap {c : Schedule} (p : Position) (h : c.cap ≠ 0) : feeOf c p ≤ c.cap := by
  simp only [feeOf, if_neg h]
  exact (Nat.min_le_left ..).trans (Nat.min_le_right ..)

/-- Where neither REDEEMED nor a cap is passed, FEE is the variable fee and the fixed part (R119, R120). -/
theorem feeOf_eq_gross {c : Schedule} {p : Position} (hr : variableFee p.feeUnits + c.fixedFee * p.captureCount ≤ p.redeemed)
    (hc : c.cap = 0 ∨ variableFee p.feeUnits + c.fixedFee * p.captureCount ≤ c.cap) :
    feeOf c p = variableFee p.feeUnits + c.fixedFee * p.captureCount := by
  simp only [feeOf]
  rcases hc with hc | hc
  · rw [if_pos hc, Nat.min_eq_left hr]
  · rw [Nat.min_eq_left hc, ite_self, Nat.min_eq_left hr]

/-- Settles O41: the tier split cent by cent and over a division, and the two bounds of FEE. -/
theorem feeArithmetic : Obligations.FeeArithmetic := fun c p v a b =>
  ⟨tierSplit_add c v a b, tierSplit_one c v, feeOf_le_redeemed c p, feeOf_le_cap p, feeOf_eq_gross⟩

end Sys2Proof.Machine

namespace Sys2Proof.Machine

/-! ## The fees cancel out of the nets (R121, R135, R136) -/

/-- A sum over the records of a table is the sum over any numbers that hold all of its own, as numbers without a record count
nothing. -/
theorem sum_table_eq_sum_numbers {α M : Type} [AddCommMonoid M] {d : α} (f : Nat → α → M) (hd : ∀ i, f i d = 0) {t : Table α}
    (h : tableWf t) {numbers : Finset Nat} (hn : ∀ e ∈ t, e.1 ∈ numbers) :
    (t.map (fun e => f e.1 e.2)).sum = ∑ i ∈ numbers, f i (tableGet d t i) := by
  induction t with
  | nil => simp [tableGet, tableFind, hd]
  | cons e rest ih =>
    obtain ⟨k, v⟩ := e
    obtain ⟨hlt, hrest⟩ := List.pairwise_cons.mp h
    have hk : k ∈ numbers := hn _ (List.mem_cons_self ..)
    have hsplit : ∀ i, f i (tableGet d ((k, v) :: rest) i) = (if k = i then f k v else 0) + f i (tableGet d rest i) := by
      intro i
      by_cases hi : k = i
      · subst hi
        simp [tableGet, tableFind, tableFind_none_of_lt rest k hlt, hd]
      · simp [tableGet, tableFind, hi]
    rw [List.map_cons, List.sum_cons, ih hrest fun e he => hn e (List.mem_cons_of_mem _ he)]
    simp only [hsplit, Finset.sum_add_distrib, Finset.sum_ite_eq, hk, if_true]

theorem State.closedPositions_formed {s : State} (h : tableWf s.merchants) : tableWf s.closedPositions :=
  tableWf_map (fun _ => ClosedPosition.netted) _ (tableWfD_set _ _ 0 _ (State.closedCopies_formed h)).1

/-- The indexes that a cut reads or writes: the operator's, and those with a merchant record or a closed position. -/
def State.cutIndexes (s : State) : Finset Nat :=
  insert 0 ((s.merchants.map Prod.fst).toFinset ∪ (s.closedPositions.map Prod.fst).toFinset)

theorem State.operator_mem_cutIndexes (s : State) : 0 ∈ s.cutIndexes := Finset.mem_insert_self ..

theorem State.merchant_mem_cutIndexes {s : State} : ∀ e ∈ s.merchants, e.1 ∈ s.cutIndexes := fun _ he =>
  Finset.mem_insert_of_mem (Finset.mem_union_left _ (List.mem_toFinset.mpr (List.mem_map_of_mem he)))

theorem State.closed_mem_cutIndexes {s : State} : ∀ e ∈ s.closedPositions, e.1 ∈ s.cutIndexes := fun _ he =>
  Finset.mem_insert_of_mem (Finset.mem_union_right _ (List.mem_toFinset.mpr (List.mem_map_of_mem he)))

/-- The sum of the fees is the sum of every index's FEE (R121). -/
theorem State.feeSum_eq_sum {s : State} (h : tableWf s.merchants) :
    feeSum s.closedCopies = ∑ i ∈ s.cutIndexes, (s.closedCopy i (s.merchant i)).fee := by
  rw [s.feeSum_closedCopies]
  exact sum_table_eq_sum_numbers (fun i m => (s.closedCopy i m).fee) (fun i => by rw [s.closedCopy_unlisted]; rfl) h
    State.merchant_mem_cutIndexes

/-- What an open position comes to, before fees: REDEEMED less REFUNDED, SOLD and SPONSOR_COST plus BREAKAGE (R135). -/
def Position.balance (p : Position) : Int := (p.redeemed : Int) - p.refunded - p.sold - p.sponsorCost + p.breakage

/-- In a cut that saturates nothing, the NET of an index is its balance less its FEE, and at the operator the sum of all fees. -/
theorem State.closingCopy_net {s : State} (h : tableWf s.merchants) (hs : s.cutSaturates = false) (i : Nat) :
    (s.closingCopy i).netted.net = (s.merchant i).position.balance - (s.closedCopy i (s.merchant i)).fee
      + (if i = 0 then (feeSum s.closedCopies : Int) else 0) := by
  have hno := mt (State.cutSaturates_iff h).mpr (by simp [hs])
  obtain ⟨hfees, hnets⟩ := not_or.mp hno
  obtain ⟨hlow, hhigh⟩ := not_or.mp (not_exists.mp hnets i)
  have hexact : (s.closingCopy i).netted.net = netExact (s.closingCopy i) := by
    rw [ClosedPosition.netted, clampNet, if_neg hlow, if_neg hhigh]
  have hincome : min Config.sum48Max (feeSum s.closedCopies) = feeSum s.closedCopies := Nat.min_eq_right (Nat.le_of_not_lt hfees)
  rw [hexact, netExact, State.closingCopy, hincome, Position.balance]
  simp only [State.closedCopy, Nat.cast_ite, Nat.cast_zero]
  ring

/-- Settles O44: with FEE_INCOME exact, the fees that the indexes pay are the sum that the operator receives. -/
theorem feesCancelInNets : Obligations.FeesCancelInNets := by
  intro s ht hs
  have hm := ht.merchants.1
  have hincome : ∑ i ∈ s.cutIndexes, (if i = 0 then (feeSum s.closedCopies : Int) else 0) =
      ∑ i ∈ s.cutIndexes, ((s.closedCopy i (s.merchant i)).fee : Int) := by
    rw [Finset.sum_ite_eq', if_pos s.operator_mem_cutIndexes, State.feeSum_eq_sum hm, Nat.cast_sum]
  calc (s.closedPositions.map (fun e => e.2.net)).sum
    _ = ∑ i ∈ s.cutIndexes, (tableGet ClosedPosition.blank s.closedPositions i).net :=
      sum_table_eq_sum_numbers (fun _ c => c.net) (fun _ => rfl) (State.closedPositions_formed hm) State.closed_mem_cutIndexes
    _ = ∑ i ∈ s.cutIndexes, ((s.merchant i).position.balance - (s.closedCopy i (s.merchant i)).fee
        + (if i = 0 then (feeSum s.closedCopies : Int) else 0)) :=
      Finset.sum_congr rfl fun i _ => by rw [State.closedPositions_get hm, State.closingCopy_net hm hs]
    _ = ∑ i ∈ s.cutIndexes, (s.merchant i).position.balance := by
      rw [Finset.sum_add_distrib, Finset.sum_sub_distrib, hincome, sub_add_cancel]
    _ = (s.merchants.map (fun e => e.2.position.balance)).sum :=
      (sum_table_eq_sum_numbers (fun _ m => m.position.balance) (fun _ => rfl) hm State.merchant_mem_cutIndexes).symm

end Sys2Proof.Machine

namespace Sys2Proof.Machine

/-! ## The cut-pending flag and the period counter (R127, R129, R137, R139, R158) -/

/-- The cut-pending flag after a cut request: NONE becomes WAITING (R129). -/
def CutPending.asked (c : CutPending) : CutPending := if c = .none then .waiting else c

/-- A cut request changes the cut-pending flag alone (R129). -/
theorem State.requestCut_eq (s : State) :
    s.requestCut = { s with period := { s.period with cutPending := s.period.cutPending.asked } } := by
  unfold State.requestCut
  split
  · next h => rw [h]; rfl
  · next h => rw [CutPending.asked, if_neg (by simp [h])]
  · next h => rw [CutPending.asked, if_neg (by simp [h])]

/-- PERIOD_CUT, the clock SET (R137). -/
theorem periodCutUnit_set {s : State} (hr : s.store.state = .ready) (hs : s.clock.isSet = true) :
    periodCutUnit s = (⟨.ok, flagField (s.period.cutPending ≠ .none) ++ field 1 s.period.cutPending.asked.value
      ++ field 1 s.period.snapshot.state.value ++ s.period.snapshot.fieldBytes 2 s.period.snapshot.period
      ++ field 2 s.period.number⟩, { s with period := { s.period with cutPending := s.period.cutPending.asked } }) := by
  rw [periodCutUnit, whenSet_set _ hr hs, State.requestCut_eq]

theorem periodReleaseUnit_paid {s : State} (hr : s.store.state = .ready) (hp : s.period.snapshot.state = .paid) :
    let freed : CutPending := if s.period.cutPending = .deferred then .waiting else s.period.cutPending
    periodReleaseUnit s = (⟨.ok, field 2 s.period.snapshot.period ++ field 1 freed.value⟩,
      { s with period := { s.period with snapshot := Snapshot.blank, cutPending := freed } }) := by
  rw [periodReleaseUnit, whenReady_ready _ hr, if_neg (not_not.mpr hp)]

theorem periodReleaseUnit_refused {s : State} (hr : s.store.state = .ready) (hp : s.period.snapshot.state ≠ .paid) :
    periodReleaseUnit s = (refuse .wrongState, s) := by
  rw [periodReleaseUnit, whenReady_ready _ hr, if_pos hp]

/-- Settles O42. -/
theorem periodRequestsMoveFlag : Obligations.PeriodRequestsMoveFlag := by
  intro s f asked freed p
  refine ⟨fun h hs => ?cut, fun h hp => ?released, fun h hp => ?refused, fun hc => ?edge, fun hc => ?off⟩
  case cut => exact h.exec_of_work (periodCutUnit_set h.ready hs)
  case released => exact h.exec_of_work (periodReleaseUnit_paid h.ready hp)
  case refused => exact h.exec_of_work (periodReleaseUnit_refused h.ready hp)
  case edge => exact congrArg Host.Outcome.next ((if_pos hc).trans (congrArg State.arbitrate s.requestCut_eq))
  case off => exact congrArg Host.Outcome.next (if_neg (by simp [hc]))

/-- The day of a roll that is due (R158). -/
abbrev State.rolled (s : State) : State :=
  { s with clock := { s.clock with day := min (s.clock.day + 1) Config.dayMax, rollDue := false } }

/-- A day roll that is due (R158). -/
theorem State.takeRoll_due {s : State} (h : s.clock.rollDue = true) :
    s.takeRoll = (s.rolled.countDay.deliver .dayRoll).arbitrate := if_pos h

section
variable {s : State}

/-- A RUNNING counter above 1 counts down (R127). -/
theorem State.countDay_down (hr : s.store.state = .ready) (hc : s.period.counterState = .running)
    (hv : 1 < s.period.counterValue) :
    s.countDay = { s with period := { s.period with counterValue := s.period.counterValue - 1 } } := by
  rw [State.countDay, if_pos ⟨hc, hr⟩, if_neg (Nat.not_le.mpr hv)]

/-- A RUNNING counter that comes to 0 is EXPIRED and requests a cut (R127, R129). -/
theorem State.countDay_expires (hr : s.store.state = .ready) (hc : s.period.counterState = .running)
    (hv : s.period.counterValue ≤ 1) :
    s.countDay = { s with period := { s.period with
      counterValue := 0, counterState := .expired, cutPending := s.period.cutPending.asked } } := by
  rw [State.countDay, if_pos ⟨hc, hr⟩, if_pos hv, State.requestCut_eq]

/-- A counter that is not RUNNING, or in a store that is not READY, stays (R127). -/
theorem State.countDay_stays (h : s.store.state ≠ .ready ∨ s.period.counterState ≠ .running) : s.countDay = s :=
  if_neg fun k => h.elim (absurd k.2) (absurd k.1)

end

/-- The row DAY_ROLL, when a roll is due: the counter as the roll leaves it, and DAY_ROLL delivered (R127, R158). -/
theorem exec_dayRoll_due {s u : State} (h : s.clock.rollDue = true) (hu : s.rolled.countDay = u) :
    exec .dayRoll s = .next (u.deliver .dayRoll).arbitrate := by
  rw [← hu]
  exact congrArg _ (State.takeRoll_due h)

/-- The row PERIOD_COUNTER_EXPIRY, when a roll that expires the counter is due: that roll (R127). -/
theorem exec_periodCounterExpiry_due {s : State} (h : s.clock.rollDue = true) (hr : s.store.state = .ready)
    (hc : s.period.counterState = .running) (hv : s.period.counterValue ≤ 1) :
    exec .periodCounterExpiry s = exec .dayRoll s :=
  congrArg _ (if_pos (by simp [State.expiryDue, h, hr, hc, hv]))

/-- Settles O49. -/
theorem dayRollStepsDay : Obligations.DayRollStepsDay := by
  intro s
  refine ⟨fun h => ?none, fun h => ⟨fun hr hc hv => ?down, fun hr hc hv => ?expires, fun hn => ?stays⟩⟩
  case none => exact congrArg Host.Outcome.next (if_neg (by simp [h]))
  case down => exact exec_dayRoll_due h (State.countDay_down hr hc hv)
  case expires =>
    have roll := exec_dayRoll_due h (State.countDay_expires (s := s.rolled) hr hc hv)
    exact ⟨roll, (exec_periodCounterExpiry_due h hr hc hv).trans roll⟩
  case stays => exact exec_dayRoll_due h (State.countDay_stays hn)

end Sys2Proof.Machine

namespace Sys2Proof.Machine

/-! ## The run and the snapshot (R134, R141 to R152, R180)

The store state, the Payout Walker and the snapshot, seen apart from the rest of the part, and every change that a step can make
of them. -/

/-- What the run's invariant speaks of: the store state, the Payout Walker and the snapshot. -/
structure RunView where
  store : StoreState
  payout : Payout
  snapshot : Snapshot

def State.runView (s : State) : RunView := ⟨s.store.state, s.payout, s.period.snapshot⟩

/-- The run, its queue and the snapshot go together: `State.RunMatched` of a state of this view. -/
structure RunView.Matched (v : RunView) : Prop where
  paying : v.store = .ready → (v.payout.run.state ≠ .idle ↔ v.snapshot.state = .paying)
  before : v.store = .mounting ∨ v.store = .unformatted → v.payout.run.state = .idle
  walking : v.payout.run.state ≠ .idle → v.snapshot.state = .paying
  idle : v.payout.run.state = .idle → v.payout.run = Run.idle ∧ v.payout.queue = []
  last : ∀ e ∈ v.payout.queue.dropLast, e.isTrailer = false
  draining : ∀ e ∈ v.payout.queue, e.isTrailer = true → v.payout.run.state = .draining
  net : v.payout.run.net = (v.payout.run.credit : Int) - v.payout.run.debit

theorem State.runMatched_iff (s : State) : s.RunMatched ↔ s.runView.Matched :=
  ⟨fun ⟨paying, before, walking, idle, last, draining, net⟩ => ⟨paying, before, walking, idle, last, draining, net⟩,
    fun ⟨paying, before, walking, idle, last, draining, net⟩ => ⟨paying, before, walking, idle, last, draining, net⟩⟩

/-- The snapshot in another state, its contents as they are (R134). -/
def Snapshot.moved (p : Snapshot) (st : SnapshotState) : Snapshot := { p with state := st }

/-- The state of a snapshot after the mount: PAYING becomes CLOSED (R180). -/
def SnapshotState.mounted (st : SnapshotState) : SnapshotState := if st = .paying then .closed else st

/-- A run that starts on the snapshot (R143). -/
def RunView.started (v : RunView) (mode : WalkMode) : RunView :=
  { v with
    payout := { v.payout with run :=
      ⟨.walking, 0, mode, v.snapshot.period, v.snapshot.previousPaid, v.snapshot.thisPaid, 0, 0, 0, 0⟩ }
    snapshot := v.snapshot.moved .paying }

/-- The oldest entries removed from the payout queue; a STALLED run that loses one is WALKING again (R150). -/
def Payout.read (p : Payout) : Payout :=
  { p with
    queue := p.queue.drop Config.payoutReadMost
    run := if p.run.state = .stalled ∧ p.queue.take Config.payoutReadMost ≠ [] then { p.run with state := .walking }
      else p.run }

/-- The trailer appended, the run DRAINING (R148). -/
def Payout.trailed (p : Payout) : Payout :=
  { p with run := { p.run with state := .draining }, queue := p.queue ++ [.trailer (trailerOf p.run)] }

/-- The changes of a view that one event or one request makes, but for a start of a run. -/
inductive RunMove (v : RunView) : RunView → Prop
  | same : RunMove v v
  | flagged (b : Bool) : RunMove v { v with payout := { v.payout with holdFlag := b } }
  | parked : RunMove v { v with store := .parked }
  | reset {st : StoreState} (unready : st ≠ .ready) : RunMove v ⟨st, ⟨Run.idle, [], false⟩, v.snapshot⟩
  | mounted (mounting : v.store = .mounting) (st : StoreState) :
      RunMove v { v with store := st, snapshot := v.snapshot.moved v.snapshot.state.mounted }
  | formatted (unformatted : v.store = .unformatted) (st : StoreState) :
      RunMove v { v with store := st, snapshot := Snapshot.blank }
  | cut {p : Snapshot} (empty : v.snapshot.state = .empty) (closed : p.state = .closed) : RunMove v { v with snapshot := p }
  | released (paid : v.snapshot.state = .paid) : RunMove v { v with snapshot := Snapshot.blank }
  | visited (c : ClosedPosition) (walking : v.payout.run.state = .walking) :
      RunMove v { v with payout := v.payout.visit c }
  | trailed (walking : v.payout.run.state = .walking) : RunMove v { v with payout := v.payout.trailed }
  | read : RunMove v { v with payout := v.payout.read }
  | completed (trailer : (v.payout.queue.take Config.payoutReadMost).any PayoutEntry.isTrailer = true) :
      RunMove v { v with payout := { v.payout.read with run := Run.idle }, snapshot := v.snapshot.moved .paid }
  | aborted : RunMove v { v with
      payout := { v.payout with run := Run.idle, queue := [] }, snapshot := v.snapshot.moved .closed }

/-- A run starts, in READY on a CLOSED snapshot (R143, R144), or none does. -/
inductive RunView.MayStart (v : RunView) : RunView → Prop
  | none : v.MayStart v
  | started (ready : v.store = .ready) (closed : v.snapshot.state = .closed) (mode : WalkMode) : v.MayStart (v.started mode)

/-- What one step can do to a view: one change, and then at most one start of a run. -/
def RunView.Step (v w : RunView) : Prop := ∃ u, RunMove v u ∧ u.MayStart w

theorem RunMove.step {v w : RunView} (h : RunMove v w) : v.Step w := ⟨w, h, .none⟩

theorem RunView.MayStart.step {v w : RunView} (h : v.MayStart w) : v.Step w := ⟨v, .same, h⟩

theorem RunView.Step.of_eq {v w : RunView} (h : w = v) : v.Step w := h ▸ RunMove.same.step

/-! ### The invariants of a view -/

section
variable {v w : RunView}

/-- Without a PAYING snapshot the run is IDLE. -/
theorem RunView.Matched.idle_of_not_paying (h : v.Matched) (hp : v.snapshot.state ≠ .paying) : v.payout.run.state = .idle :=
  not_not.mp fun hi => hp (h.walking hi)

/-- An IDLE run with an empty queue goes with every snapshot but a PAYING one, in every store state. -/
theorem RunView.Matched.of_idle (hr : v.payout.run = Run.idle) (hq : v.payout.queue = []) (hp : v.snapshot.state ≠ .paying) :
    v.Matched := by
  have hi : v.payout.run.state = .idle := congrArg Run.state hr
  refine ⟨fun _ => iff_of_false (not_not.mpr hi) hp, fun _ => hi, fun h => absurd hi h, fun _ => ⟨hr, hq⟩, ?_, ?_, ?_⟩
  · rw [hq]; nofun
  · rw [hq]; nofun
  · rw [hr]; rfl

/-- Before the trailer, no entry of the queue is one. -/
theorem RunView.Matched.records (h : v.Matched) (hs : v.payout.run.state ≠ .draining) :
    ∀ e ∈ v.payout.queue, e.isTrailer = false := fun e he => by
  by_contra ht
  exact hs (h.draining e he (by simpa using ht))

/-- A run starts with its record at zero and, the run before it being IDLE, with an empty queue (R143). -/
theorem RunView.MayStart.matched (e : v.MayStart w) (h : v.Matched) : w.Matched := by
  cases e
  case none => exact h
  case started ready closed mode =>
    have hq : v.payout.queue = [] := (h.idle (h.idle_of_not_paying (by rw [closed]; nofun))).2
    refine ⟨fun _ => ⟨fun _ => rfl, fun _ => nofun⟩, fun k => ?_, fun _ => rfl, nofun, ?_, ?_, rfl⟩
    · rcases k with k | k <;> cases ready.symm.trans k
    · show ∀ e ∈ v.payout.queue.dropLast, _
      rw [hq]
      nofun
    · show ∀ e ∈ v.payout.queue, _
      rw [hq]
      nofun

/-- The visit of a closed position appends nothing, or its record (R145, R146). -/
theorem Payout.visit_queue (p : Payout) (c : ClosedPosition) :
    (p.visit c).queue = p.queue ∨ ∃ r, (p.visit c).queue = p.queue ++ [.record r] := by
  unfold Payout.visit
  split
  · exact .inl rfl
  · exact .inr ⟨_, rfl⟩

/-- A visit leaves the run WALKING or STALLED (R145, R149). -/
theorem Payout.visit_state (p : Payout) (c : ClosedPosition) :
    (p.visit c).run.state = .walking ∨ (p.visit c).run.state = .stalled :=
  (ite_eq_or_eq _ RunState.stalled RunState.walking).symm

/-- The net total of a run is its credit total less its debit total (R145). -/
def Run.Balanced (r : Run) : Prop := r.net = (r.credit : Int) - r.debit

theorem Run.Balanced.counted {r : Run} (h : r.Balanced) (net : Int) : (r.counted net).Balanced := by
  unfold Run.Balanced Run.counted at *
  dsimp only
  split <;> split <;> omega

theorem Payout.visit_balanced {p : Payout} (h : p.run.Balanced) (c : ClosedPosition) : (p.visit c).run.Balanced := by
  unfold Payout.visit
  split
  · exact h
  · exact h.counted c.net

/-- What a PAYOUT_READ leaves of the run: all but its state, which changes from STALLED to WALKING alone (R150). -/
theorem Payout.read_run (p : Payout) :
    p.read.run = p.run ∨ (p.run.state = .stalled ∧ p.read.run = { p.run with state := .walking }) := by
  show ite _ _ _ = _ ∨ _ ∧ ite _ _ _ = _
  split
  · next h => exact .inr ⟨h.1, rfl⟩
  · exact .inl rfl

/-- Once the trailer is removed, nothing is left in the queue (R151). -/
theorem RunView.Matched.read_trailer (h : v.Matched)
    (ht : (v.payout.queue.take Config.payoutReadMost).any PayoutEntry.isTrailer = true) : v.payout.read.queue = [] := by
  by_contra hd
  obtain ⟨e, he, htr⟩ := List.any_eq_true.mp ht
  have hlast : v.payout.queue.dropLast = v.payout.queue.take Config.payoutReadMost ++ v.payout.read.queue.dropLast := by
    rw [← List.dropLast_append_of_ne_nil hd, Payout.read, List.take_append_drop]
  have := h.last e (hlast ▸ List.mem_append_left _ he)
  simp [this] at htr

theorem RunView.Matched.visited (h : v.Matched) (hw : v.payout.run.state = .walking) (c : ClosedPosition) :
    RunView.Matched { v with payout := v.payout.visit c } := by
  have hrun : v.payout.run.state ≠ .idle := by rw [hw]; nofun
  have hstate : (v.payout.visit c).run.state ≠ .idle := by
    rcases v.payout.visit_state c with e | e <;> rw [e] <;> nofun
  have hrecords : ∀ e ∈ (v.payout.visit c).queue, e.isTrailer = false := by
    have hold := h.records (by rw [hw]; nofun)
    rcases v.payout.visit_queue c with e | ⟨r, e⟩ <;> rw [e]
    · exact hold
    · exact List.forall_mem_append.mpr ⟨hold, List.forall_mem_singleton.mpr rfl⟩
  exact ⟨fun _ => iff_of_true hstate (h.walking hrun), fun k => absurd (h.before k) hrun, fun _ => h.walking hrun,
    fun k => absurd k hstate, fun e he => hrecords e (List.mem_of_mem_dropLast he),
    fun e he k => absurd k (by simp [hrecords e he]), Payout.visit_balanced h.net c⟩

theorem RunView.Matched.trailed (h : v.Matched) (hw : v.payout.run.state = .walking) :
    RunView.Matched { v with payout := v.payout.trailed } := by
  have hrun : v.payout.run.state ≠ .idle := by rw [hw]; nofun
  have hlast : ∀ e ∈ v.payout.trailed.queue.dropLast, e.isTrailer = false := by
    rw [Payout.trailed, List.dropLast_concat]
    exact h.records (by rw [hw]; nofun)
  exact ⟨fun _ => iff_of_true nofun (h.walking hrun), fun k => absurd (h.before k) hrun, fun _ => h.walking hrun, nofun, hlast,
    fun _ _ _ => rfl, h.net⟩

theorem RunView.Matched.read (h : v.Matched) : RunView.Matched { v with payout := v.payout.read } := by
  have hidle : v.payout.read.run.state = .idle ↔ v.payout.run.state = .idle := by
    rcases v.payout.read_run with e | ⟨hs, e⟩ <;> rw [e]
    simp [hs]
  have hlast : ∀ e ∈ v.payout.read.queue.dropLast, e.isTrailer = false := fun e he => by
    rw [Payout.read, List.dropLast_drop_eq_drop_dropLast] at he
    exact h.last e (List.mem_of_mem_drop he)
  refine ⟨fun hr => (not_congr hidle).trans (h.paying hr), fun k => hidle.mpr (h.before k), fun k => h.walking (mt hidle.mpr k),
    fun k => ?_, hlast, fun e he ht => ?_, ?_⟩
  · have hi := hidle.mp k
    obtain ⟨hrun, hqueue⟩ := h.idle hi
    refine ⟨?_, by rw [Payout.read, hqueue]; rfl⟩
    rcases v.payout.read_run with e | ⟨hs, -⟩
    · exact e.trans hrun
    · cases hi.symm.trans hs
  · have hd := h.draining e (List.mem_of_mem_drop he) ht
    rcases v.payout.read_run with e | ⟨hs, -⟩
    · exact (congrArg Run.state e).trans hd
    · cases hd.symm.trans hs
  · show v.payout.read.run.Balanced
    rcases v.payout.read_run with e | ⟨-, e⟩ <;> rw [e] <;> exact h.net

/-- Each change keeps the run and the snapshot together: those that leave the snapshot PAYING follow the run, and the others find
or make it IDLE. -/
theorem RunMove.matched (e : RunMove v w) (h : v.Matched) : w.Matched := by
  have ⟨paying, before, walking, idle, last, draining, net⟩ := h
  cases e
  case same => exact h
  case flagged => exact ⟨paying, before, walking, idle, last, draining, net⟩
  case parked => exact ⟨nofun, fun k => (by rcases k with k | k <;> cases k), walking, idle, last, draining, net⟩
  case reset st unready =>
    exact ⟨fun k => absurd k unready, fun _ => rfl, fun k => absurd rfl k, fun _ => ⟨rfl, rfl⟩, nofun, nofun, rfl⟩
  case mounted mounting st =>
    obtain ⟨hr, hq⟩ := idle (before (.inl mounting))
    exact .of_idle hr hq (by unfold Snapshot.moved SnapshotState.mounted; split <;> [nofun; assumption])
  case formatted unformatted st =>
    obtain ⟨hr, hq⟩ := idle (before (.inr unformatted))
    exact .of_idle hr hq nofun
  case cut empty closed =>
    obtain ⟨hr, hq⟩ := idle (h.idle_of_not_paying (by rw [empty]; nofun))
    exact .of_idle hr hq (by rw [closed]; nofun)
  case released paid =>
    obtain ⟨hr, hq⟩ := idle (h.idle_of_not_paying (by rw [paid]; nofun))
    exact .of_idle hr hq nofun
  case visited c hw => exact h.visited hw c
  case trailed hw => exact h.trailed hw
  case read => exact h.read
  case completed trailer => exact .of_idle rfl (h.read_trailer trailer) nofun
  case aborted => exact .of_idle rfl rfl nofun

/-- Every step keeps the run and the snapshot together. -/
theorem RunView.Step.matched (e : v.Step w) (h : v.Matched) : w.Matched := by
  obtain ⟨u, hu, hw⟩ := e
  exact hw.matched (hu.matched h)

/-- A snapshot that is emptied, or keeps its contents (the ninth law of the device). -/
def Snapshot.EmptiedOrKept (p q : Snapshot) : Prop := q.state = .empty ∨ q = p.moved q.state

/-- A filled snapshot is emptied, or keeps its contents. -/
theorem RunMove.snapshot (e : RunMove v w) (h : v.snapshot.state ≠ .empty) : v.snapshot.EmptiedOrKept w.snapshot := by
  cases e
  case formatted => exact .inl rfl
  case released => exact .inl rfl
  case cut empty _ => exact absurd empty h
  all_goals exact .inr rfl

/-- A start finds a CLOSED snapshot, so none follows the change that empties it (R143, R144). -/
theorem RunView.Step.snapshot (e : v.Step w) (h : v.snapshot.state ≠ .empty) : v.snapshot.EmptiedOrKept w.snapshot := by
  obtain ⟨u, hu, hw⟩ := e
  have hkept := hu.snapshot h
  cases hw
  case none => exact hkept
  case started _ closed mode =>
    rcases hkept with he | hk
    · cases he.symm.trans closed
    · have hk := congrArg (Snapshot.moved · .paying) hk
      exact .inr hk

end

end Sys2Proof.Machine

namespace Sys2Proof.Machine

/-! ## What leaves the run and the snapshot as they are -/

section
variable (s : State)

theorem State.runView_eq {s : State} {st : StoreState} {p : Payout} {q : Snapshot} (hs : s.store.state = st)
    (hp : s.payout = p) (hq : s.period.snapshot = q) : s.runView = ⟨st, p, q⟩ := by
  rw [State.runView, hs, hp, hq]

@[simp] theorem State.arbitrate_runView : s.arbitrate.runView = s.runView :=
  State.runView_eq (by rw [s.arbitrate_store]) s.arbitrate_payout (by rw [s.arbitrate_period])

@[simp] theorem State.completeUnit_runView (keeps : Bool) : (s.completeUnit keeps).runView = s.runView := by
  unfold State.completeUnit
  rw [State.arbitrate_runView]
  split <;> rfl

@[simp] theorem State.completeRequest_runView (f : Frame) (r : Reply) : (s.completeRequest f r).runView = s.runView := by
  unfold State.completeRequest
  rw [State.completeUnit_runView]
  split <;> rfl

@[simp] theorem State.completeTaken_runView (f : Frame) (r : Reply) : (s.completeTaken f r).runView = s.runView :=
  State.arbitrate_runView _

@[simp] theorem State.postAll_runView (ps : List Posting) : (s.postAll ps).runView = s.runView :=
  State.runView_eq (by rw [s.postAll_store]) (s.postAll_payout ps) (by rw [s.postAll_period])

@[simp] theorem State.raiseIf_runView (b : Bool) (c : Condition) : (s.raiseIf b c).runView = s.runView := by
  cases b <;> rfl

@[simp] theorem State.requestCut_runView : s.requestCut.runView = s.runView := by
  rw [State.requestCut_eq]
  rfl

@[simp] theorem State.countDay_runView : s.countDay.runView = s.runView := by
  unfold State.countDay
  split
  · split
    · exact State.requestCut_runView _
    · rfl
  · rfl

@[simp] theorem State.startPass_runView : s.startPass.runView = s.runView := by
  unfold State.startPass
  split <;> rfl

@[simp] theorem State.takeTick_runView : s.takeTick.runView = s.runView := by
  unfold State.takeTick
  split
  · exact State.arbitrate_runView _
  · rfl

@[simp] theorem State.visit_runView (slot : Nat) : (s.visit slot).runView = s.runView := by
  unfold State.visit
  split
  · rfl
  · dsimp only
    split <;> exact State.postAll_runView s _

theorem State.visits_runView (slots : List Nat) : (slots.foldl State.visit s).runView = s.runView := by
  induction slots generalizing s with
  | nil => rfl
  | cons j rest ih => rw [List.foldl_cons, ih, State.visit_runView]

@[simp] theorem State.put_runView (bytes : List Byte) : (s.put bytes).runView = s.runView := by
  unfold State.put State.enqueue
  split
  · rfl
  split
  · rfl
  split
  · exact State.arbitrate_runView _
  · rfl

@[simp] theorem State.take_runView (n : Nat) : (s.take n).runView = s.runView := by
  unfold State.take
  split
  · rfl
  dsimp only
  split
  · rfl
  · exact State.arbitrate_runView _

variable {s}

theorem State.FlagsOnly.runView {t : State} (h : s.FlagsOnly t) : t.runView = s.runView := by
  rw [h.eq]
  rfl

theorem State.HoldsOnly.runView {t : State} (h : s.HoldsOnly t) : t.runView = s.runView := by
  rw [show t = _ from h]
  rfl

theorem State.endHold_runView (h : Hold) (taken : Nat) : (s.endHold h taken).runView = s.runView :=
  (s.endHold_only h taken).runView

theorem State.endHolds_runView (ends : List (Hold × Nat)) : (s.endHolds ends).runView = s.runView := by
  induction ends generalizing s with
  | nil => rfl
  | cons e rest ih => exact (ih (s := s.endHold e.1 e.2)).trans (State.endHold_runView ..)

theorem State.lapseHold_runView (n : Nat) : (s.lapseHold n).runView = s.runView := by
  unfold State.lapseHold
  split
  · rfl
  · exact State.endHold_runView ..

end

/-! ## Routed events, rolls and clock events: at most a start of a run -/

section
variable {s : State} {v : RunView}

theorem State.deliver_mayStart (e : EventSource) (h : s.runView = v) : v.MayStart (s.deliver e).runView := by
  subst h
  unfold State.deliver
  split
  · exact .none
  · exact .none
  · unfold State.routedPassStart
    split
    · rw [State.startPass_runView]
      exact .none
    · exact .none
  · unfold State.routedRunStart
    split
    · next h => exact .started h.1 h.2 s.cfg.payoutMode
    · exact .none

theorem State.takeRoll_mayStart (h : s.runView = v) : v.MayStart s.takeRoll.runView := by
  unfold State.takeRoll
  split
  · rw [State.arbitrate_runView]
    exact State.deliver_mayStart .dayRoll ((State.countDay_runView s.rolled).trans h)
  · exact h ▸ .none

theorem State.advance_mayStart (h : s.runView = v) : v.MayStart s.advance.runView :=
  State.takeRoll_mayStart (s.takeTick_runView.trans h)

theorem State.fallBack_mayStart (s : State) : s.runView.MayStart s.fallBack.runView := State.advance_mayStart rfl

theorem State.edge_mayStart (s : State) : s.runView.MayStart s.edge.runView := by
  unfold State.edge
  split
  · exact State.advance_mayStart rfl
  · exact .none
  · exact .none

theorem State.dividerTick_mayStart (s : State) : s.runView.MayStart s.dividerTick.runView := by
  unfold State.dividerTick
  split
  · split
    · exact s.fallBack_mayStart
    · exact .none
  · exact State.advance_mayStart rfl
  · exact State.advance_mayStart rfl

theorem State.sweepUnit_mayStart (s : State) : s.runView.MayStart s.sweepUnit.runView := by
  have hvisits := s.visits_runView s.sweepVisits
  unfold State.sweepUnit State.endPass
  dsimp only
  rw [← hvisits]
  split
  · refine State.deliver_mayStart .sweepDone ?_
    split <;> rfl
  · exact .none

end

/-! ## Cuts, walks and the mount -/

/-- A cut fills an EMPTY snapshot, and a deferral leaves it; either delivers its event (R130 to R132). -/
theorem State.cutWork_runStep (s : State) : s.runView.Step s.cutWork.runView := by
  unfold State.cutWork
  split
  · next hp =>
    refine ⟨s.cutMade.runView, ?_, State.deliver_mayStart .cutTaken rfl⟩
    have hv : s.cutMade.runView = { s.runView with snapshot := s.cutPeriod.snapshot } := by
      rw [State.cutMade, State.raiseIf_runView]
      rfl
    rw [hv]
    exact .cut hp rfl
  · exact ⟨_, .same, State.deliver_mayStart .cutDeferred rfl⟩

theorem State.walkUnit_runMove (s : State) : RunMove s.runView s.walkUnit.runView := by
  unfold State.walkUnit
  split
  · next h => exact .visited _ h.1
  · exact .same

theorem State.appendTrailer_runMove {s : State} (h : s.trailerDue = true) : RunMove s.runView s.appendTrailer.runView := by
  simp only [State.trailerDue, Bool.and_eq_true, decide_eq_true_eq] at h
  obtain ⟨⟨⟨⟨⟨hwalking, -⟩, -⟩, -⟩, -⟩, -⟩ := h
  exact .trailed hwalking

/-- PAYOUT_READ takes entries from the queue, and with the trailer completes the run (R150, R151). -/
theorem State.readQueue_runStep (s : State) : s.runView.Step s.readQueue.runView := by
  unfold State.readQueue
  dsimp only
  split
  · next h => exact ⟨_, .completed h, State.deliver_mayStart .payoutDone rfl⟩
  · exact RunMove.read.step

theorem State.mountSnapshot_runView (s : State) :
    s.mountSnapshot.runView = { s.runView with snapshot := s.period.snapshot.moved s.period.snapshot.state.mounted } := by
  unfold State.mountSnapshot SnapshotState.mounted Snapshot.moved
  split <;> rfl

theorem State.mountStep_runMove {s : State} (h : s.store.state = .mounting) : RunMove s.runView s.mountStep.runView := by
  have mounted := RunMove.mounted (v := s.runView) h s.store.state
  unfold State.mountStep
  split
  case h_2 =>
    split
    · rw [State.mountCard_frame]
      exact .same
    · exact .same
  case h_3 =>
    rw [State.mountTotals_frame]
    exact .same
  case h_5 =>
    show RunMove _ s.mountSnapshot.runView
    rw [State.mountSnapshot_runView]
    exact mounted
  all_goals exact .same

theorem State.completeMount_runMove {s : State} (h : s.store.state = .mounting) : RunMove s.runView s.completeMount.runView := by
  have hpayout : s.completeMount.payout = s.payout := by rw [State.completeMount_frame, s.mountAll_latched.2]
  have hstore : s.completeMount.store.state = .ready := by rw [State.completeMount_frame]
  rw [State.runView_eq hstore hpayout (congrArg Period.snapshot s.completeMount_period)]
  exact .mounted h .ready

theorem Store.started_state (t : Store) (reads : Bool) : (t.started reads).state ≠ .ready := by
  unfold Store.started
  split
  · nofun
  split <;> nofun

theorem State.startPark_runMove (s : State) : RunMove s.runView s.startPark.runView := by
  unfold State.startPark
  split
  · exact .same
  split
  · exact .parked
  · exact .same

end Sys2Proof.Machine

namespace Sys2Proof.Machine

/-! ## Requests that leave the run and the snapshot as they are

Front checks and tests that refuse leave the state; passed, the rest of the work decides. -/

section
variable {P : State → Prop} {s : State}

theorem test_keep {c : Prop} [Decidable c] {r : Reply} {x : Reply × State} (hs : P s) (h : ¬ c → P x.2) :
    P (if c then (r, s) else x).2 := by
  split
  · exact hs
  · next hc => exact h hc

theorem whenReady_keep {work : State → Reply × State} (hs : P s) (h : s.store.state = .ready → P (work s).2) :
    P (whenReady work s).2 := by
  unfold whenReady
  split
  · next hr => exact h hr
  · exact hs

theorem whenSet_keep {work : State → Reply × State} (hs : P s) (h : s.store.state = .ready → P (work s).2) :
    P (whenSet work s).2 :=
  whenReady_keep hs fun hr => by
    split
    · exact h hr
    · exact hs

end

section
variable {s : State}

theorem withCard_runView {n : Nat} {rest : Nat → Card → State → Reply × State}
    (h : ∀ slot c e, e.runView = s.runView → (rest slot c e).2.runView = s.runView) :
    (withCard n s rest).2.runView = s.runView := by
  unfold withCard
  split
  · rfl
  · exact h _ _ _ (s.postAll_runView _)

theorem cardFront_runView {ns : List Nat} {rest : State → Reply × State} (h : ∀ w, (rest w).2.runView = w.runView) :
    (cardFront ns rest s).2.runView = s.runView := by
  have hflags := (s.compareAll_flags ns).runView
  refine whenSet_keep (P := fun t => t.runView = s.runView) rfl fun _ => ?_
  split
  · dsimp only
    split
    · exact hflags
    · exact (h _).trans hflags
  · rfl

/-- A test of a request that leaves the run and the snapshot as they are, whichever way it goes. -/
theorem test_runView {c : Prop} [Decidable c] {r : Reply} {x : Reply × State} (h : x.2.runView = s.runView) :
    (if c then (r, s) else x).2.runView = s.runView := test_keep (P := fun t => t.runView = s.runView) rfl fun _ => h

theorem whenReady_runView {work : State → Reply × State} (h : (work s).2.runView = s.runView) :
    (whenReady work s).2.runView = s.runView := whenReady_keep (P := fun t => t.runView = s.runView) rfl fun _ => h

theorem whenSet_runView {work : State → Reply × State} (h : (work s).2.runView = s.runView) :
    (whenSet work s).2.runView = s.runView := whenSet_keep (P := fun t => t.runView = s.runView) rfl fun _ => h

theorem issueUnit_runView (n m p : Nat) (q : Option PromoIssue) : (issueUnit n m p q s).2.runView = s.runView :=
  cardFront_runView fun _ => test_runView <| test_runView <| test_runView <| test_runView <| test_runView <|
    State.postAll_runView _ _

theorem loadUnit_runView (n m a : Nat) (q : Option PromoLoad) : (loadUnit n m a q s).2.runView = s.runView :=
  cardFront_runView fun _ => test_runView <| test_runView <| withCard_runView fun _ _ _ he => by
    split
    · rfl
    · rfl
    · exact test_runView <| test_runView <| (State.postAll_runView _ _).trans he

theorem inquireUnit_runView (n : Nat) : (inquireUnit n s).2.runView = s.runView :=
  cardFront_runView fun _ => withCard_runView fun _ _ _ he => he

theorem setCardState_runView (target : CardState) (n : Nat) : (setCardState target n s).2.runView = s.runView :=
  cardFront_runView fun _ => withCard_runView fun _ _ _ he => test_runView he

theorem closeUnit_runView (n : Nat) : (closeUnit n s).2.runView = s.runView :=
  cardFront_runView fun _ => withCard_runView fun _ _ _ he => test_runView <| test_runView <| by
    split <;> exact he

theorem replaceUnit_runView (o n : Nat) : (replaceUnit o n s).2.runView = s.runView :=
  cardFront_runView fun _ => withCard_runView fun _ _ _ he => test_runView <| test_runView <| test_runView he

theorem refundUnit_runView (n m t a : Nat) : (refundUnit n m t a s).2.runView = s.runView :=
  cardFront_runView fun _ => test_runView <| test_runView <| withCard_runView fun _ _ _ he => test_runView <|
    test_runView <| test_runView <| test_runView <| (State.postAll_runView _ _).trans he

theorem saleUnit_runView (n m t a p : Nat) : (saleUnit n m t a p s).2.runView = s.runView :=
  cardFront_runView fun _ => test_runView <| test_runView <| withCard_runView fun _ _ _ he => by
    split
    · rfl
    · rfl
    dsimp only
    split
    · rfl
    · exact (State.postAll_runView _ _).trans he

theorem authorizeUnit_runView (n m t a p : Nat) (minutes basket : Option Nat) :
    (authorizeUnit n m t a p minutes basket s).2.runView = s.runView :=
  cardFront_runView fun _ => test_runView <| test_runView <| withCard_runView fun _ _ _ he => by
    split
    · rfl
    · rfl
    refine test_runView ?_
    split
    · rfl
    dsimp only
    split
    · rfl
    · exact he

theorem captureUnit_runView (n a : Nat) : (captureUnit n a s).2.runView = s.runView :=
  whenSet_runView <| test_runView <| by
    split
    · rfl
    · exact test_runView <| test_runView <| (State.postAll_runView _ _).trans (State.endHold_runView ..)

theorem releaseUnit_runView (n : Nat) : (releaseUnit n s).2.runView = s.runView :=
  whenSet_runView <| by
    split
    · rfl
    · exact State.endHold_runView ..

theorem basketCaptureUnit_runView (n a : Nat) : (basketCaptureUnit n a s).2.runView = s.runView :=
  whenSet_runView <| test_runView <| by
    split
    · rfl
    · exact test_runView <| (State.postAll_runView _ _).trans (State.endHolds_runView _)

theorem basketReleaseUnit_runView (n : Nat) : (basketReleaseUnit n s).2.runView = s.runView :=
  whenSet_runView <| test_runView <| by
    split
    · rfl
    · exact State.endHolds_runView _

theorem terminalClearUnit_runView (m t : Nat) : (terminalClearUnit m t s).2.runView = s.runView :=
  whenSet_runView <| test_runView (s.terminalClear_only m t).runView

theorem merchantSetUnit_runView (i st sc al pr : Nat) : (merchantSetUnit i st sc al pr s).2.runView = s.runView :=
  whenReady_runView <| by
    split
    · rfl
    · exact test_runView <| test_runView rfl

theorem watchWriteUnit_runView (e n a : Nat) : (watchWriteUnit e n a s).2.runView = s.runView :=
  whenReady_runView <| test_runView <| test_runView <| by
    split <;> rfl

theorem routeSetUnit_runView (p : Option (Nat × Nat)) : (routeSetUnit p s).2.runView = s.runView :=
  whenReady_runView <| by
    split
    · rfl
    split <;> rfl

theorem configReadUnit_runView : (configReadUnit s).2.runView = s.runView := by
  unfold configReadUnit
  split <;> rfl

end

/-! ## What a request does to the run and the snapshot -/

section
variable {s : State}

/-- A test of a request: refused, nothing changes. -/
theorem test_runStep {c : Prop} [Decidable c] {r : Reply} {x : Reply × State} (h : ¬ c → s.runView.Step x.2.runView) :
    s.runView.Step (if c then (r, s) else x).2.runView :=
  test_keep (P := fun t => s.runView.Step t.runView) RunMove.same.step h

theorem whenReady_runStep {work : State → Reply × State}
    (h : s.store.state = .ready → s.runView.Step (work s).2.runView) : s.runView.Step (whenReady work s).2.runView :=
  whenReady_keep (P := fun t => s.runView.Step t.runView) RunMove.same.step h

theorem formatUnit_runStep (s : State) : s.runView.Step (formatUnit s).2.runView := by
  unfold formatUnit
  split
  · next hu =>
    dsimp only
    split
    · exact (RunMove.formatted hu s.store.state).step
    · exact (RunMove.formatted hu .ready).step
  all_goals exact RunMove.same.step

/-- The work of a request is one step of the view; only the requests of periods and payouts, SET_CLOCK and FORMAT change it. -/
theorem Request.work_runStep (r : Request) (s : State) : s.runView.Step (r.work s).2.runView := by
  cases r
  case periodRelease => exact whenReady_runStep fun _ => test_runStep fun hp => (RunMove.released (not_not.mp hp)).step
  case payoutStart =>
    exact whenReady_runStep fun hr => test_runStep fun hp =>
      (RunView.MayStart.started (v := s.runView) hr (not_not.mp hp) s.cfg.payoutMode).step
  case payoutRead => exact whenReady_runStep fun _ => s.readQueue_runStep
  case payoutAbort => exact whenReady_runStep fun _ => test_runStep fun _ => RunMove.aborted.step
  case walkersHold => exact whenReady_runStep fun _ => (RunMove.flagged true).step
  case walkersResume => exact whenReady_runStep fun _ => (RunMove.flagged false).step
  case setClock =>
    exact whenReady_runStep fun _ => test_runStep fun _ => test_runStep fun _ => (State.takeRoll_mayStart rfl).step
  case format => exact formatUnit_runStep s
  all_goals refine .of_eq ?_
  case issue => exact issueUnit_runView ..
  case load => exact loadUnit_runView ..
  case inquire => exact inquireUnit_runView ..
  case suspend => exact setCardState_runView ..
  case resume => exact setCardState_runView ..
  case close => exact closeUnit_runView ..
  case replace => exact replaceUnit_runView ..
  case watchWrite => exact watchWriteUnit_runView ..
  case watchClear => exact whenReady_runView <| test_runView rfl
  case watchList => exact whenReady_runView <| test_runView rfl
  case authorize => exact authorizeUnit_runView ..
  case capture => exact captureUnit_runView ..
  case release => exact releaseUnit_runView ..
  case sale => exact saleUnit_runView ..
  case basketOpen => exact whenSet_runView <| test_runView <| test_runView <| test_runView rfl
  case basketCapture => exact basketCaptureUnit_runView ..
  case basketRelease => exact basketReleaseUnit_runView ..
  case refund => exact refundUnit_runView ..
  case terminalClear => exact terminalClearUnit_runView ..
  case merchantSet => exact merchantSetUnit_runView ..
  case merchantRemove => exact whenReady_runView <| test_runView <| test_runView rfl
  case merchantRead => exact whenReady_runView <| test_runView rfl
  case closedRead => exact whenReady_runView <| test_runView <| test_runView rfl
  case scheduleWrite => exact whenReady_runView <| test_runView rfl
  case scheduleClear => exact whenReady_runView <| test_runView rfl
  case scheduleRead => exact whenReady_runView <| test_runView rfl
  case periodCut => exact whenSet_runView s.requestCut_runView
  case periodStatus => exact whenReady_runView (work := fun s => (⟨.ok, s.periodBody⟩, s)) rfl
  case routeSet => exact routeSetUnit_runView ..
  case sweepStart => exact whenSet_runView s.startPass_runView
  case status => rfl
  case statusClear => exact whenReady_runView rfl
  case config => exact whenReady_runView <| test_runView rfl
  case configRead => exact configReadUnit_runView

end

/-! ## Every step -/

section
variable {s t : State}

theorem WorkOf.runStep {f : Frame} {w : Reply × State} (h : WorkOf f s w) : s.runView.Step w.2.runView := by
  rcases h with e | ⟨r, -, rfl⟩
  · rw [e]
    exact RunMove.same.step
  · exact r.work_runStep s

theorem Event.runStep (e : Event s t) : s.runView.Step t.runView := by
  cases e
  case completed hw =>
    rw [State.completeRequest_runView]
    exact hw.runStep
  case served hw =>
    rw [State.completeTaken_runView]
    exact hw.runStep
  case edge => exact s.edge_mayStart.step
  case divider => exact s.dividerTick_mayStart.step
  case fallBack => exact s.fallBack_mayStart.step
  case roll => exact (State.takeRoll_mayStart rfl).step
  case cut =>
    rw [State.completeUnit_runView]
    exact s.cutWork_runStep
  case walk =>
    rw [State.completeUnit_runView]
    exact s.walkUnit_runMove.step
  case trailer due =>
    rw [State.arbitrate_runView]
    exact (State.appendTrailer_runMove due).step
  case sweep =>
    rw [State.completeUnit_runView]
    exact s.sweepUnit_mayStart.step
  case deviceReset kind reads => exact (RunMove.reset (Store.started_state s.storeAtReset reads)).step
  case mounted mounting =>
    rw [State.arbitrate_runView]
    exact (State.completeMount_runMove mounting).step
  case fall => exact (State.startPark_runMove (s.setPowerGood false)).step
  case park => exact RunMove.parked.step
  all_goals refine .of_eq ?_
  case put bytes => exact s.put_runView bytes
  case take n => exact s.take_runView n
  case cutEdge => exact s.requestCut.arbitrate_runView.trans s.requestCut_runView
  case tick => exact s.takeTick_runView
  case lapseWork n _ _ _ => exact (State.completeUnit_runView _ _).trans (State.lapseHold_runView n)
  case emptyBasket => exact State.completeUnit_runView _ _
  all_goals rfl

/-- A step of the part is a step of the view. -/
theorem runStep_of_step (h : step s = .next t) : s.runView.Step t.runView := by
  rcases step_cases h with ⟨rest, e⟩ | ⟨hm, rfl⟩ | rfl
  · exact e.runStep
  · exact (State.mountStep_runMove hm).step
  · exact RunMove.same.step

end

/-- Settles O7, by the invariant of a view. -/
theorem stepKeepsRunMatched : Obligations.StepKeepsRunMatched := fun s t h hs =>
  t.runMatched_iff.mpr ((runStep_of_step hs).matched (s.runMatched_iff.mp h))

/-- Settles O8. -/
theorem snapshotFixedUntilEmptied : Obligations.SnapshotFixedUntilEmptied := fun _ _ h hs => (runStep_of_step hs).snapshot h

end Sys2Proof.Machine

namespace Sys2Proof.Machine

/-! ## The arbiter (R176 to R178) -/

theorem mem_rotation (last c : Claimant) : c ∈ rotation last := by
  cases last <;> cases c <;> decide

/-- The rotation lists the claimants by their turn (R176). -/
theorem State.rotation_turn_lt (s : State) : (rotation s.arbiter.lastHolder).Pairwise (fun c d => s.turn c < s.turn d) := by
  unfold State.turn
  cases s.arbiter.lastHolder <;> decide

/-- The claimant that may hold the store and comes first in turn is the one it would be granted to (R177). -/
theorem State.grantee_first {s : State} {c : Claimant} (hc : s.MayHold c)
    (hfirst : ∀ d, s.MayHold d → s.turn c ≤ s.turn d) : s.grantee = some c := by
  have hmay : (s.claims c && s.grantable c) = true := Bool.and_eq_true_iff.mpr hc
  have hsome : s.grantee.isSome = true := List.find?_isSome.mpr ⟨c, mem_rotation _ c, hmay⟩
  obtain ⟨d, hd⟩ := Option.isSome_iff_exists.mp hsome
  obtain ⟨-, before, after, hsplit, hbefore⟩ := List.find?_eq_some_iff_append.mp hd
  have hsorted := s.rotation_turn_lt
  have hmem := mem_rotation s.arbiter.lastHolder c
  rw [hsplit] at hsorted hmem
  rcases List.mem_append.mp hmem with h | h
  · exact absurd (hbefore c h) (by rw [hmay]; nofun)
  rcases List.mem_cons.mp h with rfl | h
  · exact hd
  · have hlt : s.turn d < s.turn c :=
      (List.pairwise_cons.mp (List.pairwise_append.mp hsorted).2.1).1 c h
    exact absurd (hfirst d (State.grantee_may hd)) (Nat.not_le.mpr hlt)

theorem State.arbitrate_of_grantee {s : State} {c : Claimant} (hfree : s.arbiter.holder = none) (hc : s.grantee = some c) :
    s.arbitrate = s.grant c := by
  rw [State.arbitrate, hfree, hc]

/-- A grant names the holder and keeps the last one (R176). -/
theorem State.grant_arbiter (s : State) (c : Claimant) : (s.grant c).arbiter = ⟨some c, s.arbiter.lastHolder⟩ := by
  unfold State.grant
  split <;> rfl

/-- A grant to any other claimant leaves the Request Engine and the link. -/
theorem State.grant_other {s : State} {c : Claimant} (hc : c ≠ .requestEngine) :
    (s.grant c).engine = s.engine ∧ (s.grant c).link = s.link := by
  rw [State.grant, if_neg hc]
  exact ⟨rfl, rfl⟩

/-- A grant to the Request Engine takes the oldest frame (R187). -/
theorem State.grant_requestEngine {s : State} {f : Frame} {rest : List Frame} (hi : s.link.intake = f :: rest) :
    (s.grant .requestEngine).engine = ⟨some f, false⟩ ∧ (s.grant .requestEngine).link.intake = rest := by
  rw [State.grant, if_pos rfl, State.takeOldest, hi]
  exact ⟨rfl, rfl⟩

section
variable {s : State}

theorem State.claims_requestEngine : s.claims .requestEngine = true ↔
    s.link.answers.length < 16 ∧ ∃ f rest, s.link.intake = f :: rest ∧ s.frameNeedsGrant f = true := by
  unfold State.claims State.answerPlace
  cases s.link.intake with
  | nil => simp
  | cons f rest => simp [and_comm]

theorem State.claims_lapseWork : s.claims .lapseWork = true ↔ s.hold.lapse ≠ [] := by
  simp [State.claims]

theorem State.claims_periodController :
    s.claims .periodController = true ↔ s.period.cutPending = .waiting ∧ s.clock.isSet = true := by
  simp [State.claims]

theorem State.claims_payoutWalker : s.claims .payoutWalker = true ↔ s.payout.run.state = .walking ∧
    s.payout.run.position < 512 ∧ s.payout.queue.length < 32 ∧ s.payout.holdFlag = false := by
  simp [State.claims, State.walkerClaims, and_assoc]

theorem State.claims_expirySweep : s.claims .expirySweep = true ↔
    s.sweep.pass = .sweeping ∧ s.payout.holdFlag = false ∧ s.clock.isSet = true := by
  simp [State.claims, State.sweepClaims, and_assoc]

end

/-- The kinds that are served without a grant in READY (R178). -/
theorem Kind.needsGrant_iff (k : Kind) : k.needsGrant = true ↔
    k ∉ [.status, .statusClear, .payoutRead, .routeSet, .walkersHold, .walkersResume, .format] := by
  cases k <;> decide

/-- A frame carries a FORMAT when it is of that kind and well formed. -/
theorem Frame.request_format_iff (f : Frame) :
    f.request = some .format ↔ kindOf f.kind = some .format ∧ f.request.isSome = true := by
  refine ⟨fun h => ⟨Frame.kind_of_request h, h ▸ rfl⟩, fun ⟨hk, hs⟩ => ?_⟩
  obtain ⟨r, hr⟩ := Option.isSome_iff_exists.mp hs
  have hkind : r.kind = .format := Option.some.inj ((Frame.kind_of_request hr).symm.trans hk)
  cases r
  case format => exact hr
  all_goals cases hkind

theorem State.frameNeedsGrant_iff (s : State) (f : Frame) : s.frameNeedsGrant f = true ↔
    (s.store.state = .ready ∧ ∃ k, kindOf f.kind = some k ∧
      k ∉ [.status, .statusClear, .payoutRead, .routeSet, .walkersHold, .walkersResume, .format]) ∨
    (s.store.state = .unformatted ∧ f.request = some .format) := by
  rw [f.request_format_iff]
  cases hk : kindOf f.kind with
  | none => simp [State.frameNeedsGrant, hk]
  | some k =>
    cases hs : s.store.state <;> simp [State.frameNeedsGrant, hk, hs, Kind.needsGrant_iff]

/-- In READY a well-formed request needs a store grant by its kind alone (R178). -/
theorem State.frameNeedsGrant_ready {s : State} {f : Frame} {r : Request} (hs : s.store.state = .ready)
    (hr : f.request = some r) : s.frameNeedsGrant f = r.kind.needsGrant := by
  simp only [State.frameNeedsGrant, Frame.kind_of_request hr, hs]

theorem State.grantable_iff (s : State) (c : Claimant) : s.grantable c = true ↔ s.store.parking = false ∧
    (s.store.state = .ready ∨ s.store.state = .unformatted ∧ c = .requestEngine) := by
  simp [State.grantable]

/-- Settles O14. -/
theorem arbiterGrantsFirstInTurn : Obligations.ArbiterGrantsFirstInTurn := by
  intro s
  refine ⟨s.arbitrate_of_held, State.arbitrate_of_no_claim, fun c hfree hc hfirst => ?_, State.claims_requestEngine,
    State.claims_lapseWork, State.claims_periodController, State.claims_payoutWalker, State.claims_expirySweep,
    s.frameNeedsGrant_iff, s.grantable_iff⟩
  have hgrant : s.arbitrate = s.grant c := State.arbitrate_of_grantee hfree (State.grantee_first hc hfirst)
  refine ⟨hgrant ▸ s.grant_arbiter c, s.arbitrate_grant, fun hne => hgrant ▸ State.grant_other hne, fun heq => ?_⟩
  subst heq
  obtain ⟨-, f, rest, hintake, -⟩ := State.claims_requestEngine.mp hc.1
  exact ⟨f, rest, hintake, hgrant ▸ State.grant_requestEngine hintake⟩

end Sys2Proof.Machine

namespace Sys2Proof.Machine

/-! ## Payout controls (R143, R152, R153) -/

section
variable {s : State}

theorem payoutStartUnit_closed (hr : s.store.state = .ready) (hp : s.period.snapshot.state = .closed) :
    payoutStartUnit s = (⟨.ok, field 2 s.period.snapshot.period ++ field 1 s.cfg.payoutMode.value
      ++ flagField s.payout.holdFlag⟩, s.startRun) := by
  rw [payoutStartUnit, whenReady_ready _ hr]
  exact if_neg (not_not.mpr hp)

theorem payoutStartUnit_refused (hr : s.store.state = .ready) (hp : s.period.snapshot.state ≠ .closed) :
    payoutStartUnit s = (refuse .wrongState, s) := by
  rw [payoutStartUnit, whenReady_ready _ hr]
  exact if_pos hp

theorem payoutAbortUnit_paying (hr : s.store.state = .ready) (hp : s.period.snapshot.state = .paying) :
    payoutAbortUnit s = (⟨.ok, field 2 s.payout.run.period ++ field 2 s.payout.run.position
        ++ field 2 s.payout.run.recordCount ++ field 2 s.payout.queue.length⟩,
      { s with
        payout := { s.payout with run := Run.idle, queue := [] }
        period := { s.period with snapshot := { s.period.snapshot with state := .closed } } }) := by
  rw [payoutAbortUnit, whenReady_ready _ hr]
  exact if_neg (not_not.mpr hp)

theorem payoutAbortUnit_refused (hr : s.store.state = .ready) (hp : s.period.snapshot.state ≠ .paying) :
    payoutAbortUnit s = (refuse .wrongState, s) := by
  rw [payoutAbortUnit, whenReady_ready _ hr]
  exact if_pos hp

theorem setHoldFlag_ready (b : Bool) (hr : s.store.state = .ready) :
    setHoldFlag b s = (⟨.ok, flagField b ++ field 1 s.payout.run.state.value ++ field 2 s.payout.run.position
      ++ field 1 s.sweep.pass.value⟩, { s with payout := { s.payout with holdFlag := b } }) := by
  rw [setHoldFlag, whenReady_ready _ hr]

end

/-- Settles O45. -/
theorem payoutControlsAct : Obligations.PayoutControlsAct := by
  intro s f rest p r
  refine ⟨fun h hp => ?_, fun h hp => ?_, fun h hp => ?_, fun h hp => ?_, fun hr hn hs => ?_, fun hr hn hs => ?_⟩
  · exact h.exec_of_work (payoutStartUnit_closed h.ready hp)
  · exact h.exec_of_work (payoutStartUnit_refused h.ready hp)
  · exact h.exec_of_work (payoutAbortUnit_paying h.ready hp)
  · exact h.exec_of_work (payoutAbortUnit_refused h.ready hp)
  · exact hn.exec_of_work hr (State.frameNeedsGrant_ready hs hr) (setHoldFlag_ready (s := s.taken rest) true hs)
  · exact hn.exec_of_work hr (State.frameNeedsGrant_ready hs hr) (setHoldFlag_ready (s := s.taken rest) false hs)

end Sys2Proof.Machine

namespace Sys2Proof.Machine

/-! ## Walk units and the trailer (R145 to R148) -/

/-- A closed position is skipped when nothing but its schedule and its payout reference differs from the blank one (R145). -/
theorem ClosedPosition.skipped_iff (c : ClosedPosition) :
    c.skipped = true ↔ c = { ClosedPosition.blank with schedule := c.schedule, payoutRef := c.payoutRef } := by
  obtain ⟨position, fee, income, net, schedule, ref, listed⟩ := c
  simp only [ClosedPosition.skipped, ClosedPosition.blank, ClosedPosition.mk.injEq, Bool.and_eq_true, Bool.not_eq_true',
    decide_eq_true_eq]
  tauto

/-- A counted NET goes to the credit total when above 0, to the debit total when below, and to the net total (R145). -/
theorem Run.counted_eq (r : Run) (net : Int) : r.counted net = { r with
    recordCount := r.recordCount + 1, credit := r.credit + net.toNat, debit := r.debit + (-net).toNat
    net := r.net + net } := by
  have hcredit : (if 0 < net then r.credit + net.natAbs else r.credit) = r.credit + net.toNat := by
    split <;> omega
  have hdebit : (if net < 0 then r.debit + net.natAbs else r.debit) = r.debit + (-net).toNat := by
    split <;> omega
  rw [Run.counted, hcredit, hdebit]

section
variable {p : Payout} {c : ClosedPosition}

theorem Payout.visit_skipped (h : c.skipped = true) : p.visit c = { p with run := { p.run with
    position := p.run.position + 1
    state := if Config.payoutPlaces ≤ p.queue.length then .stalled else .walking } } := by
  rw [Payout.visit, if_pos h]

theorem Payout.visit_recorded (h : c.skipped ≠ true) :
    let queue := p.queue ++ [.record (payoutRecord (p.run.recordCount + 1) p.run.position c)]
    p.visit c = { p with
      queue := queue
      run := { p.run.counted c.net with
        position := p.run.position + 1
        state := if Config.payoutPlaces ≤ queue.length then .stalled else .walking } } := by
  rw [Payout.visit, if_neg h]
  rfl

/-- A visit moves the run on by one index, and stalls it on a full queue (R145, R149). -/
theorem Payout.visit_moves (p : Payout) (c : ClosedPosition) :
    (p.visit c).run.position = p.run.position + 1 ∧
    (p.visit c).run.state = if Config.payoutPlaces ≤ (p.visit c).queue.length then .stalled else .walking := by
  by_cases h : c.skipped = true
  · rw [Payout.visit_skipped h]
    exact ⟨rfl, rfl⟩
  · rw [Payout.visit_recorded h]
    exact ⟨rfl, rfl⟩

/-- A visit changes the run record and the queue, and leaves the hold flag. -/
theorem Payout.visit_frame (p : Payout) (c : ClosedPosition) :
    p.visit c = { p with run := (p.visit c).run, queue := (p.visit c).queue } := by
  by_cases h : c.skipped = true
  · rw [Payout.visit_skipped h]
  · rw [Payout.visit_recorded h]

/-- A visit leaves the run's mode. -/
theorem Payout.visit_mode (p : Payout) (c : ClosedPosition) : (p.visit c).run.mode = p.run.mode := by
  by_cases h : c.skipped = true
  · rw [Payout.visit_skipped h]
  · rw [Payout.visit_recorded h]
    rfl

end

/-- A walk unit of a WALKING run before position 512 is the visit of its closed position (R145). -/
theorem State.walkUnit_walking {s : State} (hw : s.payout.run.state = .walking) (hp : s.payout.run.position < 512) :
    s.walkUnit = { s with payout := s.payout.visit (s.period.snapshot.closedAt s.payout.run.position) } :=
  if_pos ⟨hw, hp⟩

/-- The walker keeps its grant when the mode is BURST, it may claim again, and no park is under way (R147, R183). -/
theorem State.walkerKeeps_iff (s : State) : s.walkerKeeps = true ↔
    s.payout.run.mode = .burst ∧ s.walkerClaims = true ∧ s.store.parking = false := by
  simp [State.walkerKeeps, and_assoc]

theorem State.trailerDue_iff (s : State) : s.trailerDue = true ↔
    s.payout.run.state = .walking ∧ s.payout.run.position = 512 ∧ s.payout.holdFlag = false ∧
      s.payout.queue.length < 32 ∧ s.store.state = .ready ∧ s.store.parking = false := by
  simp [State.trailerDue, and_assoc]

/-- Settles O46. -/
theorem walkerAppendsRecords : Obligations.WalkerAppendsRecords := by
  intro s hw r c
  refine ⟨fun hh hp _ => ⟨{ s with payout := s.payout.visit c }, ?_, ?_, ?_, ?_, fun hc => ?_, fun hc => ?_⟩,
    fun hp hf hq hs hk => ?_⟩
  · have hunit : s.walkUnit = { s with payout := s.payout.visit c } := State.walkUnit_walking hw hp
    show execWalkUnit s = _
    rw [execWalkUnit, if_pos hh, hunit]
    congr 2
    rw [Bool.eq_iff_iff, State.walkerKeeps_iff, decide_eq_true_iff, Payout.visit_mode]
  · exact congrArg (fun p => { s with payout := p }) (s.payout.visit_frame c)
  · exact (s.payout.visit_moves c).1
  · exact (s.payout.visit_moves c).2
  · have hvisit := Payout.visit_skipped (p := s.payout) (c.skipped_iff.mpr hc)
    dsimp only
    rw [hvisit]
    exact ⟨rfl, rfl⟩
  · have hvisit := Payout.visit_recorded (p := s.payout) (mt c.skipped_iff.mp hc)
    rw [Run.counted_eq] at hvisit
    dsimp only
    rw [hvisit]
    exact ⟨rfl, rfl⟩
  · show execTrailerAppend s = _
    rw [execTrailerAppend, if_pos (s.trailerDue_iff.mpr ⟨hw, hp, hf, hq, hs, hk⟩)]
    rfl

end Sys2Proof.Machine

namespace Sys2Proof.Machine

/-! ## PAYOUT_READ (R150, R151) -/

/-- An event leaves the run and the snapshot's state unless it can start a run: in READY, a CLOSED snapshot's (R144, R163). -/
theorem State.deliver_run_of_not_closed {s : State} (e : EventSource) (h : s.period.snapshot.state ≠ .closed) :
    (s.deliver e).payout.run = s.payout.run ∧ (s.deliver e).period.snapshot.state = s.period.snapshot.state := by
  unfold State.deliver
  split
  · exact ⟨rfl, rfl⟩
  · exact ⟨rfl, rfl⟩
  · unfold State.routedPassStart State.startPass
    split
    · split <;> exact ⟨rfl, rfl⟩
    · exact ⟨rfl, rfl⟩
  · unfold State.routedRunStart
    rw [if_neg fun hr => h hr.2]
    exact ⟨rfl, rfl⟩

section
variable {s : State}

theorem payoutReadUnit_ready (hr : s.store.state = .ready) :
    payoutReadUnit s = (⟨.ok, listBytes ((s.payout.queue.take 4).map payoutEntryBytes)
      ++ field 1 s.readQueue.payout.run.state.value ++ field 2 s.readQueue.payout.queue.length⟩, s.readQueue) := by
  rw [payoutReadUnit, whenReady_ready _ hr]

/-- The removal of records alone leaves the run as it is, but that a STALLED one walks again (R150). -/
theorem State.readQueue_records (h : ∀ e ∈ s.payout.queue.take 4, e.isTrailer = false) :
    s.readQueue = { s with payout := { s.payout with
      queue := s.payout.queue.drop 4
      run := { s.payout.run with state :=
        if s.payout.run.state = .stalled ∧ s.payout.queue.take 4 ≠ [] then .walking else s.payout.run.state } } } := by
  have hany : ¬ (s.payout.queue.take Config.payoutReadMost).any PayoutEntry.isTrailer = true := by simpa using h
  rw [State.readQueue]
  dsimp only
  rw [if_neg hany]
  split <;> rfl

/-- The removal of the trailer completes the run, whatever it was (R151). -/
theorem State.readQueue_trailer (h : ∃ e ∈ s.payout.queue.take 4, e.isTrailer = true) :
    s.readQueue = ({ s with
      payout := { s.payout with queue := s.payout.queue.drop 4, run := Run.idle }
      period := { s.period with snapshot := { s.period.snapshot with state := .paid } } } : State).deliver .payoutDone :=
  if_pos (List.any_eq_true.mpr h)

end

/-- Settles O47. -/
theorem payoutReadRemovesOldest : Obligations.PayoutReadRemovesOldest := by
  intro s f rest hr hn hs removed left body
  have hexec := hn.exec_of_work hr (State.frameNeedsGrant_ready hs hr) (payoutReadUnit_ready (s := s.taken rest) hs)
  refine ⟨fun hrecords => ?_, fun htrailer => ?_⟩
  · intro state
    rw [State.readQueue_records (s := s.taken rest) hrecords] at hexec
    exact hexec
  · intro u
    rw [State.readQueue_trailer (s := s.taken rest) htrailer] at hexec
    obtain ⟨hrun, hpaid⟩ : u.payout.run = Run.idle ∧ u.period.snapshot.state = .paid :=
      State.deliver_run_of_not_closed .payoutDone nofun
    refine ⟨hrun, hpaid, State.deliver_cutPending .., ?_⟩
    have hleft : u.payout.queue = left := State.deliver_queue ..
    have hbody : body ++ field 1 u.payout.run.state.value ++ field 2 u.payout.queue.length =
        body ++ [1#8, 0#8] ++ field 2 left.length := by
      rw [hrun, hleft]
      rfl
    rw [← hbody]
    exact hexec

end Sys2Proof.Machine

namespace Sys2Proof.Machine

/-! ## The clock through every step (R156 to R161, R195) -/

/-- `State.ClockInRange` of a state with this clock. -/
structure Clock.InRange (k : Clock) : Prop where
  day : k.day ≤ Config.dayMax
  second : k.second < Config.secondsPerDay
  divider : k.divider ≤ 3
  due : k.rollDue = true → k.isSet = true

theorem State.clockInRange_iff (s : State) : s.ClockInRange ↔ s.clock.InRange :=
  ⟨fun ⟨day, second, divider, due⟩ => ⟨day, second, divider, due⟩,
    fun ⟨day, second, divider, due⟩ => ⟨day, second, divider, due⟩⟩

/-- A clock in range, its day no lower than the one of `k`, and SET or UNSET as `k` is. -/
structure Clock.GoesOn (k l : Clock) : Prop where
  range : l.InRange
  set : l.isSet = k.isSet
  day : k.day ≤ l.day

/-- A clock in range, its day no lower than the one of `k` when both are SET (the eighth law of the device). -/
def Clock.Follows (k l : Clock) : Prop := l.InRange ∧ (k.isSet = true → l.isSet = true → k.day ≤ l.day)

theorem Clock.GoesOn.trans {k l m : Clock} (h : k.GoesOn l) (g : l.GoesOn m) : k.GoesOn m :=
  ⟨g.range, g.set.trans h.set, h.day.trans g.day⟩

theorem Clock.GoesOn.follows {k l : Clock} (h : k.GoesOn l) : k.Follows l := ⟨h.range, fun _ _ => h.day⟩

theorem nextSecond_lt (n : Nat) : nextSecond n < Config.secondsPerDay := by
  unfold nextSecond
  split
  · assumption
  · decide

section
variable {k : Clock}

/-- The clock after a device reset (R179). -/
theorem Clock.inRange_reset : (⟨0, 0, false, .external, 0, false⟩ : Clock).InRange :=
  ⟨by decide, by decide, by decide, nofun⟩

theorem Clock.InRange.same (h : k.InRange) : k.GoesOn k := ⟨h, rfl, le_rfl⟩

theorem Clock.InRange.resourced (h : k.InRange) (source : ClockSource) {n : Nat} (hn : n ≤ 3) :
    k.GoesOn { k with source := source, divider := n } := ⟨⟨h.day, h.second, hn, h.due⟩, rfl, le_rfl⟩

/-- The day stops at its last value, so that a roll never lowers it (R158). -/
theorem Clock.InRange.rolled (h : k.InRange) :
    k.GoesOn { k with day := min (k.day + 1) Config.dayMax, rollDue := false } :=
  ⟨⟨min_le_right _ _, h.second, h.divider, nofun⟩, rfl, le_min (Nat.le_succ _) h.day⟩

/-- Only a SET clock advances, so that a roll comes due on a SET one alone (R157). -/
theorem Clock.InRange.ticked (h : k.InRange) (hset : k.isSet = true) (due : Bool) :
    k.GoesOn { k with second := nextSecond k.second, rollDue := due } :=
  ⟨⟨h.day, nextSecond_lt _, h.divider, fun _ => hset⟩, rfl, le_rfl⟩

theorem Clock.InRange.afterConfig (h : k.InRange) (old new : Bool) : k.GoesOn (k.afterConfig old new) := by
  unfold Clock.afterConfig
  split
  · exact h.same
  · exact h.resourced _ (Nat.zero_le 3)

/-- A load of a day no lower than the one of a SET clock (R160). -/
theorem Clock.loaded_follows {day second : Nat} (hday : day ≤ Config.dayMax) (hsecond : second < Config.secondsPerDay)
    (hlow : k.isSet = true → k.day ≤ day) (l : Clock) :
    k.Follows { l with day := day, second := second, isSet := true, divider := 0 } :=
  ⟨⟨hday, hsecond, Nat.zero_le 3, fun _ => rfl⟩, fun hset _ => hlow hset⟩

end

/-! ### What leaves the clock as it is -/

section
variable (s : State)

@[simp] theorem State.completeUnit_clock (keeps : Bool) : (s.completeUnit keeps).clock = s.clock := by
  unfold State.completeUnit
  rw [State.arbitrate_clock]
  split <;> rfl

@[simp] theorem State.completeRequest_clock (f : Frame) (r : Reply) : (s.completeRequest f r).clock = s.clock := by
  unfold State.completeRequest
  rw [State.completeUnit_clock]
  split <;> rfl

@[simp] theorem State.completeTaken_clock (f : Frame) (r : Reply) : (s.completeTaken f r).clock = s.clock :=
  State.arbitrate_clock _

@[simp] theorem State.requestCut_clock : s.requestCut.clock = s.clock := by
  rw [State.requestCut_eq]

@[simp] theorem State.countDay_clock : s.countDay.clock = s.clock := by
  unfold State.countDay
  split
  · split
    · exact State.requestCut_clock _
    · rfl
  · rfl

@[simp] theorem State.takeTick_clock : s.takeTick.clock = s.clock := by
  unfold State.takeTick
  split
  · exact State.arbitrate_clock _
  · rfl

@[simp] theorem State.startPass_clock : s.startPass.clock = s.clock := by
  unfold State.startPass
  split <;> rfl

@[simp] theorem State.put_clock (bytes : List Byte) : (s.put bytes).clock = s.clock := by
  unfold State.put State.enqueue
  split
  · rfl
  split
  · rfl
  split
  · exact State.arbitrate_clock _
  · rfl

@[simp] theorem State.take_clock (n : Nat) : (s.take n).clock = s.clock := by
  unfold State.take
  split
  · rfl
  dsimp only
  split
  · rfl
  · exact State.arbitrate_clock _

@[simp] theorem State.visit_clock (slot : Nat) : (s.visit slot).clock = s.clock := by
  unfold State.visit
  split
  · rfl
  · dsimp only
    split <;> exact s.postAll_clock _

theorem State.visits_clock (slots : List Nat) : (slots.foldl State.visit s).clock = s.clock := by
  induction slots generalizing s with
  | nil => rfl
  | cons j rest ih => rw [List.foldl_cons, ih, State.visit_clock]

@[simp] theorem State.sweepUnit_clock : s.sweepUnit.clock = s.clock := by
  have hvisits := s.visits_clock s.sweepVisits
  unfold State.sweepUnit State.endPass
  dsimp only
  split
  · rw [State.deliver_clock]
    split <;> exact hvisits
  · exact hvisits

@[simp] theorem State.cutWork_clock : s.cutWork.clock = s.clock := by
  unfold State.cutWork
  split
  · rw [State.takeCut, State.deliver_clock, State.raiseIf_clock]
  · exact State.deliver_clock _ _

@[simp] theorem State.walkUnit_clock : s.walkUnit.clock = s.clock := by
  unfold State.walkUnit
  split <;> rfl

@[simp] theorem State.readQueue_clock : s.readQueue.clock = s.clock := by
  unfold State.readQueue
  dsimp only
  split
  · exact State.deliver_clock _ _
  · rfl

@[simp] theorem State.startPark_clock : s.startPark.clock = s.clock := by
  unfold State.startPark
  split
  · rfl
  split <;> rfl

theorem State.HoldsOnly.clock {s t : State} (h : s.HoldsOnly t) : t.clock = s.clock := by
  rw [show t = _ from h]

theorem State.endHold_clock (h : Hold) (taken : Nat) : (s.endHold h taken).clock = s.clock :=
  (s.endHold_only h taken).clock

theorem State.endHolds_clock (ends : List (Hold × Nat)) : (s.endHolds ends).clock = s.clock := by
  induction ends generalizing s with
  | nil => rfl
  | cons e rest ih => exact (ih (s.endHold e.1 e.2)).trans (s.endHold_clock ..)

theorem State.lapseHold_clock (n : Nat) : (s.lapseHold n).clock = s.clock := by
  unfold State.lapseHold
  split
  · rfl
  · exact s.endHold_clock ..

end

/-! ### What advances the clock -/

section
variable {s : State}

theorem State.takeRoll_goesOn (h : s.clock.InRange) : s.clock.GoesOn s.takeRoll.clock := by
  by_cases hdue : s.clock.rollDue = true
  · rw [State.takeRoll_due hdue, State.arbitrate_clock, State.deliver_clock, State.countDay_clock]
    exact h.rolled
  · rw [State.takeRoll, if_neg hdue]
    exact h.same

theorem State.advance_goesOn (h : s.clock.InRange) (hset : s.clock.isSet = true) : s.clock.GoesOn s.advance.clock := by
  have htick : s.clock = s.takeTick.clock := s.takeTick_clock.symm
  have hroll : s.clock.GoesOn s.takeTick.takeRoll.clock := by
    rw [htick] at h ⊢
    exact State.takeRoll_goesOn h
  exact hroll.trans (hroll.range.ticked (hroll.set.trans hset) _)

theorem State.fallBack_goesOn (h : s.clock.InRange) (hset : s.clock.isSet = true) : s.clock.GoesOn s.fallBack.clock :=
  have hsource := h.resourced .fallback (le_refl 3)
  hsource.trans (State.advance_goesOn (s := ({ s with clock := _ } : State).raise .clockFallback) hsource.range hset)

theorem State.setDivider_goesOn (h : s.clock.InRange) {n : Nat} (hn : n ≤ 3) : s.clock.GoesOn (s.setDivider n).clock :=
  h.resourced s.clock.source hn

theorem State.advance_setDivider_goesOn (h : s.clock.InRange) (hset : s.clock.isSet = true) {n : Nat} (hn : n ≤ 3) :
    s.clock.GoesOn (s.setDivider n).advance.clock :=
  have hdivider := State.setDivider_goesOn h hn
  hdivider.trans (State.advance_goesOn hdivider.range hset)

theorem State.edge_goesOn (h : s.clock.InRange) (hset : s.clock.isSet = true) : s.clock.GoesOn s.edge.clock := by
  unfold State.edge
  split
  · exact State.advance_setDivider_goesOn h hset (Nat.zero_le 3)
  · exact h.resourced .external (Nat.zero_le 3)
  · exact State.setDivider_goesOn h (Nat.zero_le 3)

theorem State.dividerTick_goesOn (h : s.clock.InRange) (hset : s.clock.isSet = true) :
    s.clock.GoesOn s.dividerTick.clock := by
  unfold State.dividerTick
  split
  · split
    · exact State.fallBack_goesOn h hset
    · exact State.setDivider_goesOn h (by omega)
  · exact State.advance_setDivider_goesOn h hset (min_le_right _ 3)
  · exact State.advance_setDivider_goesOn h hset (min_le_right _ 3)

theorem State.mountStep_goesOn (h : s.clock.InRange) : s.clock.GoesOn s.mountStep.clock := by
  unfold State.mountStep
  split
  case h_1 => exact h.resourced _ h.divider
  case h_2 =>
    split
    · rw [State.mountCard_frame]
      exact h.same
    · exact h.same
  case h_3 =>
    rw [State.mountTotals_frame]
    exact h.same
  case h_5 =>
    unfold State.mountSnapshot
    split <;> exact h.same
  all_goals exact h.same

theorem State.completeMount_goesOn (h : s.clock.InRange) : s.clock.GoesOn s.completeMount.clock := by
  obtain ⟨-, -, hclock, -, -, -⟩ := s.completeMount_rest
  rw [hclock]
  exact h.resourced _ h.divider

end

/-! ### The work of requests -/

section
variable {s : State}

theorem withCard_clock {n : Nat} {rest : Nat → Card → State → Reply × State}
    (h : ∀ slot c e, e.clock = s.clock → (rest slot c e).2.clock = s.clock) : (withCard n s rest).2.clock = s.clock := by
  unfold withCard
  split
  · rfl
  · exact h _ _ _ (s.postAll_clock _)

theorem test_clock {c : Prop} [Decidable c] {r : Reply} {x : Reply × State} (h : x.2.clock = s.clock) :
    (if c then (r, s) else x).2.clock = s.clock := test_keep (P := fun t => t.clock = s.clock) rfl fun _ => h

theorem whenReady_clock {work : State → Reply × State} (h : (work s).2.clock = s.clock) :
    (whenReady work s).2.clock = s.clock := whenReady_keep (P := fun t => t.clock = s.clock) rfl fun _ => h

theorem whenSet_clock {work : State → Reply × State} (h : (work s).2.clock = s.clock) :
    (whenSet work s).2.clock = s.clock := whenSet_keep (P := fun t => t.clock = s.clock) rfl fun _ => h

theorem cardFront_clock {ns : List Nat} {rest : State → Reply × State} (h : ∀ w, (rest w).2.clock = w.clock) :
    (cardFront ns rest s).2.clock = s.clock := by
  have hflags : (ns.foldl State.compareWatch s).clock = s.clock := by rw [(s.compareAll_flags ns).eq]
  refine whenSet_clock ?_
  split
  · dsimp only
    split
    · exact hflags
    · exact (h _).trans hflags
  · rfl

theorem loadUnit_clock (n m a : Nat) (q : Option PromoLoad) : (loadUnit n m a q s).2.clock = s.clock :=
  cardFront_clock fun _ => test_clock <| test_clock <| withCard_clock fun _ _ _ he => by
    split
    · rfl
    · rfl
    · exact test_clock <| test_clock <| (State.postAll_clock _ _).trans he

theorem closeUnit_clock (n : Nat) : (closeUnit n s).2.clock = s.clock :=
  cardFront_clock fun _ => withCard_clock fun _ _ _ he => test_clock <| test_clock <| by
    split <;> exact he

theorem authorizeUnit_clock (n m t a p : Nat) (minutes basket : Option Nat) :
    (authorizeUnit n m t a p minutes basket s).2.clock = s.clock :=
  cardFront_clock fun _ => test_clock <| test_clock <| withCard_clock fun _ _ _ he => by
    split
    · rfl
    · rfl
    refine test_clock ?_
    split
    · rfl
    dsimp only
    split
    · rfl
    · exact he

theorem saleUnit_clock (n m t a p : Nat) : (saleUnit n m t a p s).2.clock = s.clock :=
  cardFront_clock fun _ => test_clock <| test_clock <| withCard_clock fun _ _ _ he => by
    split
    · rfl
    · rfl
    dsimp only
    split
    · rfl
    · exact (State.postAll_clock _ _).trans he

theorem refundUnit_clock (n m t a : Nat) : (refundUnit n m t a s).2.clock = s.clock :=
  cardFront_clock fun _ => test_clock <| test_clock <| withCard_clock fun _ _ _ he => test_clock <| test_clock <|
    test_clock <| test_clock <| (State.postAll_clock _ _).trans he

theorem captureUnit_clock (n a : Nat) : (captureUnit n a s).2.clock = s.clock :=
  whenSet_clock <| test_clock <| by
    split
    · rfl
    · exact test_clock <| test_clock <| (State.postAll_clock _ _).trans (s.endHold_clock ..)

theorem releaseUnit_clock (n : Nat) : (releaseUnit n s).2.clock = s.clock :=
  whenSet_clock <| by
    split
    · rfl
    · exact s.endHold_clock ..

theorem basketCaptureUnit_clock (n a : Nat) : (basketCaptureUnit n a s).2.clock = s.clock :=
  whenSet_clock <| test_clock <| by
    split
    · rfl
    · exact test_clock <| (State.postAll_clock _ _).trans (s.endHolds_clock _)

theorem basketReleaseUnit_clock (n : Nat) : (basketReleaseUnit n s).2.clock = s.clock :=
  whenSet_clock <| test_clock <| by
    split
    · rfl
    · exact s.endHolds_clock _

theorem terminalClearUnit_clock (m t : Nat) : (terminalClearUnit m t s).2.clock = s.clock :=
  whenSet_clock <| test_clock (s.terminalClear_only m t).clock

theorem merchantSetUnit_clock (i st sc al pr : Nat) : (merchantSetUnit i st sc al pr s).2.clock = s.clock :=
  whenReady_clock <| by
    split
    · rfl
    · exact test_clock <| test_clock rfl

theorem watchWriteUnit_clock (e n a : Nat) : (watchWriteUnit e n a s).2.clock = s.clock :=
  whenReady_clock <| test_clock <| test_clock <| by
    split <;> rfl

theorem routeSetUnit_clock (p : Option (Nat × Nat)) : (routeSetUnit p s).2.clock = s.clock :=
  whenReady_clock <| by
    split
    · rfl
    split <;> rfl

theorem configReadUnit_clock : (configReadUnit s).2.clock = s.clock := by
  unfold configReadUnit
  split <;> rfl

theorem test_follows {c : Prop} [Decidable c] {r : Reply} {x : Reply × State} (h : s.clock.InRange)
    (hx : ¬ c → s.clock.Follows x.2.clock) : s.clock.Follows (if c then (r, s) else x).2.clock :=
  test_keep (P := fun t => s.clock.Follows t.clock) h.same.follows hx

theorem whenReady_follows {work : State → Reply × State} (h : s.clock.InRange) (hw : s.clock.Follows (work s).2.clock) :
    s.clock.Follows (whenReady work s).2.clock :=
  whenReady_keep (P := fun t => s.clock.Follows t.clock) h.same.follows fun _ => hw

/-- A load below the current day of a SET clock is refused, also after the roll that is due (R160, R161). -/
theorem setClockUnit_follows (h : s.clock.InRange) (day second : Nat) :
    s.clock.Follows (setClockUnit day second s).2.clock := by
  refine whenReady_follows h <| test_follows h fun hrange => test_follows h fun hlow => ?_
  have hroll := State.takeRoll_goesOn h
  refine Clock.loaded_follows (by omega) (by omega) (fun hset => ?_) _
  exact hroll.day.trans (not_lt.mp fun hlt => hlow ⟨hroll.set.trans hset, hlt⟩)

theorem configUnit_follows (h : s.clock.InRange) (c : ConfigFields) : s.clock.Follows (configUnit c s).2.clock :=
  whenReady_follows h <| test_follows h fun _ => (h.afterConfig _ _).follows

theorem formatUnit_follows (h : s.clock.InRange) : s.clock.Follows (formatUnit s).2.clock := by
  have hsource := (h.resourced .external h.divider).follows
  unfold formatUnit
  split
  · dsimp only
    split <;> exact hsource
  all_goals exact h.same.follows

/-- The work of a request leaves the clock, but for SET_CLOCK, CONFIG and FORMAT. -/
theorem Request.work_follows (r : Request) (h : s.clock.InRange) : s.clock.Follows (r.work s).2.clock := by
  have kept : (r.work s).2.clock = s.clock → s.clock.Follows (r.work s).2.clock := fun e => e.symm ▸ h.same.follows
  cases r
  case setClock => exact setClockUnit_follows h ..
  case config => exact configUnit_follows h _
  case format => exact formatUnit_follows h
  all_goals refine kept ?_
  case issue =>
    exact cardFront_clock fun _ => test_clock <| test_clock <| test_clock <| test_clock <| test_clock <|
      State.postAll_clock _ _
  case load => exact loadUnit_clock ..
  case inquire => exact cardFront_clock fun _ => withCard_clock fun _ _ _ he => he
  case suspend | resume => exact cardFront_clock fun _ => withCard_clock fun _ _ _ he => test_clock he
  case close => exact closeUnit_clock ..
  case replace =>
    exact cardFront_clock fun _ => withCard_clock fun _ _ _ he => test_clock <| test_clock <| test_clock he
  case watchWrite => exact watchWriteUnit_clock ..
  case authorize => exact authorizeUnit_clock ..
  case capture => exact captureUnit_clock ..
  case release => exact releaseUnit_clock ..
  case sale => exact saleUnit_clock ..
  case basketOpen => exact whenSet_clock <| test_clock <| test_clock <| test_clock rfl
  case basketCapture => exact basketCaptureUnit_clock ..
  case basketRelease => exact basketReleaseUnit_clock ..
  case refund => exact refundUnit_clock ..
  case terminalClear => exact terminalClearUnit_clock ..
  case merchantSet => exact merchantSetUnit_clock ..
  case merchantRemove | closedRead => exact whenReady_clock <| test_clock <| test_clock rfl
  case watchClear | watchList | merchantRead | scheduleWrite | scheduleClear | scheduleRead | periodRelease | payoutStart |
      payoutAbort => exact whenReady_clock <| test_clock rfl
  case periodCut => exact whenSet_clock s.requestCut_clock
  case periodStatus => exact whenReady_clock (work := fun s => (⟨.ok, s.periodBody⟩, s)) rfl
  case payoutRead => exact whenReady_clock s.readQueue_clock
  case walkersHold | walkersResume | statusClear => exact whenReady_clock rfl
  case routeSet => exact routeSetUnit_clock ..
  case sweepStart => exact whenSet_clock s.startPass_clock
  case status => rfl
  case configRead => exact configReadUnit_clock

end

/-! ### Every step -/

section
variable {s t : State}

theorem WorkOf.follows {f : Frame} {w : Reply × State} (hw : WorkOf f s w) (h : s.clock.InRange) :
    s.clock.Follows w.2.clock := by
  rcases hw with e | ⟨r, -, rfl⟩
  · rw [e]
    exact h.same.follows
  · exact r.work_follows h

/-- The service of a frame does to the clock what the work of its request does. -/
theorem State.serve_follows {takes : Frame → Bool} {work : Frame → State → Reply × State} (h : s.clock.InRange)
    (hwork : ∀ f u, WorkOf f u (work f u)) : s.clock.Follows (s.serve takes work).clock := by
  rcases s.serve_cases takes work with ⟨f, -, -, -, e⟩ | ⟨f, rest, -, -, -, e⟩ | e <;> rw [e]
  · rw [State.completeRequest_clock]
    exact (hwork f s).follows h
  · rw [State.completeTaken_clock]
    exact (hwork f (s.taken rest)).follows h
  · exact h.same.follows

/-- A unit that does the work of each request, or refuses it, is the work of the request that a frame carries. -/
theorem wellFormedOr_workOf {unit : Request → State → Reply × State}
    (hunit : ∀ r u, unit r u = r.work u ∨ unit r u = (refuse .badRequest, u)) (f : Frame) (u : State) :
    WorkOf f u (wellFormedOr unit f u) := by
  cases hf : f.request with
  | none =>
    rw [wellFormedOr_none _ _ hf]
    exact .inl rfl
  | some r =>
    rw [wellFormedOr_some _ _ hf]
    rcases hunit r u with e | e <;> rw [e]
    · exact .inr ⟨r, hf, rfl⟩
    · exact .inl rfl

/-- A command that acts when `b` holds. -/
theorem when_follows {b : Prop} [Decidable b] {u : State} (h : s.clock.InRange) (hu : b → s.clock.Follows u.clock) :
    s.clock.Follows (if b then u else s).clock := by
  split
  · next hb => exact hu hb
  · exact h.same.follows

/-- A command moves the clock on, or resets or loads it. TIMEREF edges and divider seconds do so while it is SET alone. -/
theorem exec_follows {c : Instr} (h : s.clock.InRange) (he : exec c s = .next t) : s.clock.Follows t.clock := by
  have kept : ∀ {u : State}, u.clock = s.clock → s.clock.Follows u.clock := fun e => e.symm ▸ h.same.follows
  cases c <;> obtain rfl := outcome_next_inj he
  case timerefEdge => exact when_follows h fun hset => (State.edge_goesOn h hset).follows
  case dividerSecond => exact when_follows h fun hset => (State.dividerTick_goesOn h hset).follows
  case clockFallback =>
    refine when_follows h fun hnext => (State.fallBack_goesOn h ?_).follows
    exact (Bool.and_eq_true_iff.mp (Bool.and_eq_true_iff.mp hnext).1).1
  case dayRoll => exact (State.takeRoll_goesOn h).follows
  case periodCounterExpiry => exact when_follows h fun _ => (State.takeRoll_goesOn h).follows
  case deviceReset => exact ⟨Clock.inRange_reset, fun _ => nofun⟩
  case mountComplete =>
    refine when_follows h fun _ => ?_
    rw [State.arbitrate_clock]
    exact (State.completeMount_goesOn h).follows
  case put bytes => exact kept (s.put_clock bytes)
  case take n => exact kept (s.take_clock n)
  case linkReset => exact kept rfl
  case transactionCodeUnknown => exact kept (by split <;> rfl)
  case cutNEdge => exact when_follows h fun _ => kept (s.requestCut.arbitrate_clock.trans s.requestCut_clock)
  case minuteTick => exact kept s.takeTick_clock
  case holdLapse | basketLapse => exact when_follows h fun _ => kept s.takeTick_clock
  case lapseWork =>
    refine kept ?_
    split
    · exact (State.completeUnit_clock _ _).trans (s.lapseHold_clock _)
    · rfl
  case emptyBasketLapse =>
    refine kept ?_
    split
    · exact State.completeUnit_clock _ _
    · rfl
  case cut => exact when_follows h fun _ => kept ((State.completeUnit_clock _ _).trans s.cutWork_clock)
  case walkUnit => exact when_follows h fun _ => kept ((State.completeUnit_clock _ _).trans s.walkUnit_clock)
  case trailerAppend => exact when_follows h fun _ => kept (State.arbitrate_clock _)
  case sweepUnit => exact when_follows h fun _ => kept ((State.completeUnit_clock _ _).trans s.sweepUnit_clock)
  case powerGoodFall => exact kept (State.startPark_clock _)
  case park => exact when_follows h fun _ => kept rfl
  case powerGoodRise => exact kept rfl
  case unknownRequestKind => exact State.serve_follows (work := fun _ u => (refuse .badRequest, u)) h fun _ _ => .inl rfl
  all_goals
    refine State.serve_follows h (wellFormedOr_workOf fun r u => ?_)
    split
    · exact .inl rfl
    · exact .inr rfl

/-- A step moves the clock on, or resets or loads it. -/
theorem step_follows (h : s.clock.InRange) (hs : step s = .next t) : s.clock.Follows t.clock := by
  unfold step at hs
  split at hs
  · obtain rfl := outcome_next_inj hs
    exact when_follows h fun _ => (State.mountStep_goesOn h).follows
  · next c rest _ => exact exec_follows (s := s.setPending rest) h hs

end

/-- Settles O6. -/
theorem dayNeverDecreases : Obligations.DayNeverDecreases := fun s t h hs => by
  obtain ⟨hrange, hday⟩ := step_follows (s.clockInRange_iff.mp h) hs
  exact ⟨t.clockInRange_iff.mpr hrange, hday⟩

end Sys2Proof.Machine

namespace Sys2Proof.Machine

/-! ## The clock's events and SET_CLOCK (R156, R157, R159 to R161) -/

section
variable {s : State}

theorem State.takeTick_none (h : s.hold.ticksDue = 0 ∨ s.arbiter.holder ≠ none) : s.takeTick = s :=
  if_neg fun ⟨hdue, hfree⟩ => h.elim (Nat.ne_of_gt hdue) (absurd hfree)

theorem State.takeRoll_none (h : s.clock.rollDue = false) : s.takeRoll = s := if_neg (by simp [h])

theorem nextSecond_eq {n : Nat} (h : n < 86400) : nextSecond n = if n = 86399 then 0 else n + 1 := by
  by_cases hn : n = 86399
  · subst hn
    rfl
  · have hlt : n + 1 < 86400 := by omega
    exact (if_pos hlt).trans (if_neg hn).symm

/-- An advance with no tick and no roll left over from the one before (R157). -/
theorem State.advance_clear (hsecond : s.clock.second < 86400) (hroll : s.clock.rollDue = false)
    (htick : s.hold.ticksDue = 0 ∨ s.arbiter.holder ≠ none) :
    let n := if s.clock.second = 86399 then 0 else s.clock.second + 1
    s.advance = { s with
      clock := { s.clock with second := n, rollDue := n = s.cfg.rollSecond }
      hold := { s.hold with ticksDue := s.hold.ticksDue + (if n % 60 = 0 then 1 else 0) } } := by
  intro n
  have hn : nextSecond s.clock.second = n := nextSecond_eq hsecond
  rw [State.advance, State.takeTick_none htick, State.takeRoll_none hroll]
  dsimp only
  rw [hn]
  split <;> rfl

theorem exec_timerefEdge_set (h : s.clock.isSet = true) : exec .timerefEdge s = .next s.edge :=
  congrArg Host.Outcome.next (if_pos h)

theorem exec_dividerSecond_set (h : s.clock.isSet = true) : exec .dividerSecond s = .next s.dividerTick :=
  congrArg Host.Outcome.next (if_pos h)

/-- While the clock is UNSET its events change nothing (R156). -/
theorem exec_clockEvents_unset (h : s.clock.isSet = false) :
    exec .timerefEdge s = .next s ∧ exec .dividerSecond s = .next s ∧ exec .clockFallback s = .next s := by
  have hset : ¬ s.clock.isSet = true := by simp [h]
  have hnext : ¬ s.fallbackNext = true := by simp [State.fallbackNext, h]
  exact ⟨congrArg Host.Outcome.next (if_neg hset), congrArg Host.Outcome.next (if_neg hset),
    congrArg Host.Outcome.next (if_neg hnext)⟩

/-- The row CLOCK_FALLBACK, at the third silent divider second (R159). -/
theorem exec_clockFallback_due (hset : s.clock.isSet = true) (he : s.clock.source = .external) (hd : 2 ≤ s.clock.divider) :
    exec .clockFallback s = .next s.fallBack :=
  congrArg Host.Outcome.next (if_pos (by simp [State.fallbackNext, hset, he, hd]))

theorem State.edge_external (h : s.clock.source = .external) : s.edge = (s.setDivider 0).advance := by
  rw [State.edge, h]

theorem State.edge_fallback (h : s.clock.source = .fallback) :
    s.edge = { s with clock := { s.clock with source := .external, divider := 0 } } := by
  rw [State.edge, h]

theorem State.edge_internal (h : s.clock.source = .internal) : s.edge = s.setDivider 0 := by
  rw [State.edge, h]

theorem State.dividerTick_counts (h : s.clock.source = .external) (hd : s.clock.divider < 2) :
    s.dividerTick = s.setDivider (s.clock.divider + 1) := by
  rw [State.dividerTick, h]
  exact if_neg (Nat.not_le.mpr hd)

theorem State.dividerTick_fallsBack (h : s.clock.source = .external) (hd : 2 ≤ s.clock.divider) :
    s.dividerTick = s.fallBack := by
  rw [State.dividerTick, h]
  exact if_pos hd

/-- In FALLBACK and in INTERNAL each divider second advances the clock (R159). -/
theorem State.dividerTick_advances (h : s.clock.source ≠ .external) :
    s.dividerTick = (s.setDivider (min (s.clock.divider + 1) 3)).advance := by
  unfold State.dividerTick
  split
  · next he => exact absurd he h
  · rfl
  · rfl

end

/-- Settles O48. -/
theorem clockEventsAct : Obligations.ClockEventsAct := by
  intro s
  refine ⟨exec_clockEvents_unset, fun hset he => ⟨?_, fun hd => ?_, fun hd => ?_⟩,
    fun hset hf => ⟨?_, min (s.clock.divider + 1) 3, ?_⟩, fun hset hi => ⟨?_, min (s.clock.divider + 1) 3, ?_⟩, State.advance_clear⟩
  · rw [exec_timerefEdge_set hset, State.edge_external he]
    rfl
  · rw [exec_dividerSecond_set hset, State.dividerTick_counts he hd]
    rfl
  · exact ⟨by rw [exec_dividerSecond_set hset, State.dividerTick_fallsBack he hd.ge]; rfl,
      exec_clockFallback_due hset he hd.ge⟩
  · rw [exec_timerefEdge_set hset, State.edge_fallback hf]
  · rw [exec_dividerSecond_set hset, State.dividerTick_advances (by simp [hf])]
    rfl
  · rw [exec_timerefEdge_set hset, State.edge_internal hi]
    rfl
  · rw [exec_dividerSecond_set hset, State.dividerTick_advances (by simp [hi])]
    rfl

section
variable {s : State} {d n : Nat}

/-- SET_CLOCK with no roll due: the value's range first, then the day of a SET clock (R160). -/
theorem setClockUnit_eq (hr : s.store.state = .ready) (hroll : s.clock.rollDue = false) : setClockUnit d n s =
    if 65535 < d ∨ 86400 ≤ n then (refuse .badValue, s)
    else if s.clock.isSet = true ∧ d < s.clock.day then (refuse .badValue, s)
    else (⟨.ok, field 2 d ++ field 4 n ++ field 1 (clockSetValue s.clock.isSet)⟩,
      { s with clock := { s.clock with day := d, second := n, isSet := true, divider := 0 } }) := by
  rw [setClockUnit, whenReady_ready _ hr]
  dsimp only
  rw [State.takeRoll_none hroll]

theorem setClockUnit_loaded (hr : s.store.state = .ready) (hroll : s.clock.rollDue = false) (hd : d ≤ 65535)
    (hn : n ≤ 86399) (hday : s.clock.isSet = true → s.clock.day ≤ d) : setClockUnit d n s =
    (⟨.ok, field 2 d ++ field 4 n ++ field 1 (clockSetValue s.clock.isSet)⟩,
      { s with clock := { s.clock with day := d, second := n, isSet := true, divider := 0 } }) := by
  rw [setClockUnit_eq hr hroll, if_neg (by omega), if_neg fun h => Nat.not_lt.mpr (hday h.1) h.2]

theorem setClockUnit_refused (hr : s.store.state = .ready) (hroll : s.clock.rollDue = false)
    (h : 65535 < d ∨ 86399 < n ∨ s.clock.isSet = true ∧ d < s.clock.day) :
    setClockUnit d n s = (refuse .badValue, s) := by
  rw [setClockUnit_eq hr hroll]
  split
  · rfl
  · next hrange => exact if_pos ((h.resolve_left fun hd => hrange (.inl hd)).resolve_left fun hn => hrange (.inr hn))

end

/-- Settles O51. -/
theorem setClockLoads : Obligations.SetClockLoads := fun _ _ _ _ hp hroll =>
  ⟨fun hd hn hday => hp.exec_of_work (setClockUnit_loaded hp.ready hroll hd hn hday),
    fun h => hp.exec_of_work (setClockUnit_refused hp.ready hroll h)⟩

end Sys2Proof.Machine

namespace Sys2Proof.Machine

/-! ## The Event Router (R144, R162 to R164, R166) -/

section
variable {s : State} {e : EventSource}

theorem State.deliver_none (h : s.routes.of e = .none) : s.deliver e = s := by
  rw [State.deliver, h]

theorem State.deliver_attention (h : s.routes.of e = .attention) : s.deliver e = s.raise e.condition := by
  rw [State.deliver, h]

theorem State.deliver_sweepStart (h : s.routes.of e = .sweepStart) : s.deliver e = s.routedPassStart := by
  rw [State.deliver, h]

theorem State.deliver_payoutStart (h : s.routes.of e = .payoutStart) : s.deliver e = s.routedRunStart := by
  rw [State.deliver, h]

theorem State.startPass_idle (h : s.sweep.pass = .idle) :
    s.startPass = { s with sweep := ⟨.sweeping, 0, false, s.cfg.sweepMode, s.cfg.sweepBlock⟩ } := by
  rw [State.startPass, h]
  rfl

theorem State.startPass_sweeping (h : s.sweep.pass = .sweeping) :
    s.startPass = { s with sweep := { s.sweep with passPending := true } } := by
  rw [State.startPass, h]

theorem State.startPass_link (s : State) : s.startPass.link = s.link := by
  unfold State.startPass
  split <;> rfl

/-- A routed pass start acts in READY with the clock SET (R166). -/
theorem State.routedPassStart_acts (hr : s.store.state = .ready) (hset : s.clock.isSet = true) :
    s.routedPassStart = s.startPass := if_pos ⟨hr, hset⟩

theorem State.routedPassStart_ignored (h : s.store.state ≠ .ready ∨ s.clock.isSet = false) : s.routedPassStart = s :=
  if_neg fun ⟨hr, hset⟩ => h.elim (absurd hr) (by simp [hset])

/-- Only a source routed to ATTENTION raises a condition (R163). -/
theorem State.deliver_link (h : s.routes.of e ≠ .attention) : (s.deliver e).link = s.link := by
  unfold State.deliver
  split
  · rfl
  · next ha => exact absurd ha h
  · unfold State.routedPassStart
    split
    · exact s.startPass_link
    · rfl
  · unfold State.routedRunStart
    split <;> rfl

end

/-- Settles O50. -/
theorem routerDelivers : Obligations.RouterDelivers := by
  intro s e
  refine ⟨s.deliver_event e, State.deliver_link, State.deliver_none, State.deliver_attention, fun h => ?sweep, fun h => ?payout⟩
  case sweep =>
    rw [State.deliver_sweepStart h]
    refine ⟨State.routedPassStart_ignored, fun hr hset hp => ?_, fun hr hset hp => ?_⟩
    · rw [State.routedPassStart_acts hr hset, State.startPass_idle hp]
    · rw [State.routedPassStart_acts hr hset, State.startPass_sweeping hp]
  case payout =>
    rw [State.deliver_payoutStart h]
    exact ⟨fun hn => if_neg fun ⟨hr, hc⟩ => hn.elim (absurd hr) (absurd hc), fun hr hc => if_pos ⟨hr, hc⟩⟩

/-- A route table read after one entry is written (R164). -/
theorem Routes.of_set (r : Routes) (e k : EventSource) (d : Destination) :
    (r.set e d).of k = if k = e then d else r.of k := by
  cases e <;> cases k <;> rfl

section
variable {s : State}

theorem routeSetUnit_read (hr : s.store.state = .ready) : routeSetUnit none s = (⟨.ok, routesBody s.routes⟩, s) := by
  rw [routeSetUnit, whenReady_ready _ hr]

theorem routeSetUnit_writes (hr : s.store.state = .ready) {so de : Nat} {e : EventSource} {d : Destination}
    (he : eventSourceOf so = some e) (hd : destinationOf de = some d) :
    routeSetUnit (some (so, de)) s = (⟨.ok, routesBody (s.routes.set e d)⟩,
      { s with routes := s.routes.set e d, storedRoutes := s.storedRoutes.set e d }) := by
  rw [routeSetUnit, whenReady_ready _ hr]
  dsimp only
  rw [he, hd]

theorem routeSetUnit_refused (hr : s.store.state = .ready) {so de : Nat}
    (h : eventSourceOf so = none ∨ destinationOf de = none) :
    routeSetUnit (some (so, de)) s = (refuse .badValue, s) := by
  rw [routeSetUnit, whenReady_ready _ hr]
  dsimp only
  split
  · next he hd => rcases h with h | h <;> simp_all
  · rfl

end

/-- Settles O52. -/
theorem routeSetWritesEntry : Obligations.RouteSetWritesEntry := by
  intro s f rest hn hs
  have hg : ∀ {p}, f.request = some (.routeSet p) → s.frameNeedsGrant f = false := fun hr => State.frameNeedsGrant_ready hs hr
  refine ⟨fun hr => ?read, fun so de e d hr he hd => ?write, fun so de hr h => ?refused⟩
  case read => exact hn.exec_of_work hr (hg hr) (routeSetUnit_read (s := s.taken rest) hs)
  case refused => exact hn.exec_of_work hr (hg hr) (routeSetUnit_refused (s := s.taken rest) hs h)
  case write =>
    refine ⟨{ s with routes := s.routes.set e d, storedRoutes := s.storedRoutes.set e d },
      hn.exec_of_work hr (hg hr) (routeSetUnit_writes (s := s.taken rest) hs he hd), rfl, ?_, ?_, fun k hk => ⟨?_, ?_⟩⟩
    all_goals rw [Routes.of_set]
    · exact if_pos rfl
    · exact if_pos rfl
    · exact if_neg hk
    · exact if_neg hk

end Sys2Proof.Machine

namespace Sys2Proof.Machine

/-! ## CONFIG (R159, R195) -/

/-- A numeric setting that is carried is clamped into its range, and one that is absent stays (R195). -/
theorem clampOr_eq (old : Nat) {lo hi : Nat} (h : lo ≤ hi) (v : Option Nat) :
    clampOr old lo hi v = (v.map fun v => max lo (min v hi)).getD old := by
  cases v with
  | none => rfl
  | some v =>
    show (if v < lo then lo else if hi < v then hi else v) = max lo (min v hi)
    split
    · omega
    · split <;> omega

/-- A setting whose range begins at 0 is clamped from above alone (R195). -/
theorem clampOr_zero (old hi : Nat) (v : Option Nat) : clampOr old 0 hi v = (v.map (min · hi)).getD old := by
  simp [clampOr_eq old (Nat.zero_le hi)]

theorem dormantOr_eq (old : Nat) (v : Option Nat) :
    dormantOr old v = (v.map fun v => if v = 0 then 0 else max 30 (min v 3650)).getD old := by
  cases v with
  | none => rfl
  | some v =>
    show (if v = 0 then 0 else clampOr old 30 3650 (some v)) = if v = 0 then 0 else max 30 (min v 3650)
    rw [clampOr_eq old (by decide)]
    rfl

theorem switchOr_eq (old : Bool) (v : Option Nat) : switchOr old v = (v.map fun v => decide (v = 1)).getD old := by
  cases v <;> rfl

/-- A mode that names a value: 0 is INTERLEAVED and 1 BURST (R190, R195). -/
theorem modeOr_eq (old : WalkMode) {v : Option Nat} (h : ∀ n, v = some n → n ≤ 1) :
    modeOr old v = (v.map fun v => if v = 1 then .burst else .interleaved).getD old := by
  cases v with
  | none => rfl
  | some n =>
    obtain rfl | rfl : n = 0 ∨ n = 1 := by have := h n rfl; omega
    · rfl
    · rfl

theorem Settings.after_attentionMask (k : Settings) (c : ConfigFields) :
    (k.after c).attentionMask = (c.attentionMask.map (BitVec.ofNat 16)).getD k.attentionMask := by
  cases h : c.attentionMask <;> simp [Settings.after, h]

/-- Every mode that an accepted CONFIG carries names a value (R195). -/
theorem ConfigFields.named_modes {c : ConfigFields} (h : c.named = true) :
    (∀ n, c.payoutMode = some n → n ≤ 1) ∧ ∀ n, c.sweepMode = some n → n ≤ 1 := by
  have hall : ∀ v ∈ [c.cutLine, c.clockSource, c.payoutMode, c.sweepMode], ∀ n, v = some n → n ≤ 1 := fun v hv n hn => by
    have := List.all_eq_true.mp h v hv
    subst hn
    simpa using this
  exact ⟨hall _ (by simp), hall _ (by simp)⟩

/-- A change of CLOCK_SOURCE moves the source at once, with the divider count at 0 (R156, R159). -/
theorem Clock.afterConfig_eq (k : Clock) (old new : Bool) : k.afterConfig old new =
    if new = old then k else { k with source := if new then .internal else .external, divider := 0 } := by
  unfold Clock.afterConfig sourceOf
  by_cases h : new = old
  · rw [if_pos h, if_pos h.symm]
  · rw [if_neg h, if_neg (Ne.symm h)]

section
variable {s : State} {c : ConfigFields}

theorem configUnit_accepted (hr : s.store.state = .ready) (hc : c.named = true) : configUnit c s =
    (⟨.ok, settingsBody (s.settings.after c)⟩, { s with
      settings := s.settings.after c
      clock := s.clock.afterConfig s.settings.clockInternal (s.settings.after c).clockInternal }) := by
  rw [configUnit, whenReady_ready _ hr, hc]
  rfl

theorem configUnit_refused (hr : s.store.state = .ready) (hc : c.named = false) :
    configUnit c s = (refuse .badValue, s) := by
  rw [configUnit, whenReady_ready _ hr, hc]
  rfl

end

/-- Settles O56. -/
theorem configClampsSettings : Obligations.ConfigClampsSettings := by
  intro s f c hp
  refine ⟨fun hc => hp.exec_of_work (configUnit_refused hp.ready hc), fun hc => ?_⟩
  obtain ⟨hpayout, hsweep⟩ := ConfigFields.named_modes hc
  refine ⟨{ s with
    settings := s.settings.after c
    clock := s.clock.afterConfig s.settings.clockInternal (s.settings.after c).clockInternal },
    hp.exec_of_work (configUnit_accepted hp.ready hc), rfl, Clock.afterConfig_eq ..,
    clampOr_eq _ (by decide) _, clampOr_eq _ (by decide) _, clampOr_zero .., dormantOr_eq .., clampOr_zero .., switchOr_eq ..,
    clampOr_zero .., switchOr_eq .., modeOr_eq _ hpayout, modeOr_eq _ hsweep, clampOr_eq _ (by decide) _,
    Settings.after_attentionMask ..⟩

end Sys2Proof.Machine

namespace Sys2Proof.Machine

/-! ## SWEEP_START (R166, R167) -/

section
variable {s : State}

theorem sweepStartUnit_notReady (h : s.store.state ≠ .ready) : sweepStartUnit s = (refuse .notReady, s) := by
  rw [sweepStartUnit, whenSet, whenReady_not _ h]

theorem sweepStartUnit_unset (hr : s.store.state = .ready) (hset : s.clock.isSet = false) :
    sweepStartUnit s = (refuse .clockUnset, s) := whenSet_unset _ hr hset

/-- A start in IDLE begins a pass (R166). -/
theorem sweepStartUnit_idle (hr : s.store.state = .ready) (hset : s.clock.isSet = true) (hp : s.sweep.pass = .idle) :
    sweepStartUnit s = (⟨.ok, field 1 0 ++ field 1 1 ++ field 4 0 ++ field 1 0⟩,
      { s with sweep := ⟨.sweeping, 0, false, s.cfg.sweepMode, s.cfg.sweepBlock⟩ }) := by
  rw [sweepStartUnit, whenSet_set _ hr hset]
  dsimp only
  rw [State.startPass_idle hp, startDisposition, hp]
  rfl

/-- A start in SWEEPING marks a pass pending, or merges with the one that is (R166). -/
theorem sweepStartUnit_sweeping (hr : s.store.state = .ready) (hset : s.clock.isSet = true)
    (hp : s.sweep.pass = .sweeping) : sweepStartUnit s =
    (⟨.ok, field 1 (if s.sweep.passPending then 2 else 1) ++ field 1 1 ++ field 4 s.sweep.position ++ field 1 1⟩,
      { s with sweep := { s.sweep with passPending := true } }) := by
  have hdisposition : startDisposition s.sweep = if s.sweep.passPending then 2 else 1 := by rw [startDisposition, hp]
  have hpass : s.sweep.pass.value = 1 := congrArg PassState.value hp
  rw [sweepStartUnit, whenSet_set _ hr hset]
  dsimp only
  rw [State.startPass_sweeping hp, hdisposition, hpass]
  rfl

/-- No request but FORMAT needs a grant before the store is READY (R175, R182). -/
theorem State.frameNeedsGrant_unready {f : Frame} {r : Request} (hr : f.request = some r) (hk : r.kind ≠ .format)
    (h : s.store.state = .mounting ∨ s.store.state = .unformatted) : s.frameNeedsGrant f = false := by
  rcases h with hm | hu
  · simp [State.frameNeedsGrant, Frame.kind_of_request hr, hm]
  · exact State.frameNeedsGrant_unformatted hu hr hk

end

/-- Settles O53. -/
theorem sweepStartStartsOrMarks : Obligations.SweepStartStartsOrMarks := by
  intro s f
  refine ⟨fun hc hh hk hf => ?_, fun rest hn hr hs => ?_, fun hp => ⟨fun hset => ?_, fun hset hi => ?_, fun hset hw => ?_⟩⟩
  · exact s.exec_row_malformed (r := .sweepStart) hc hh hk nofun nofun hf
  · have hnot : (s.taken rest).store.state ≠ .ready := fun h => by
      rcases hs with hs | hs <;> cases hs.symm.trans h
    exact hn.exec_of_work hr (State.frameNeedsGrant_unready hr nofun hs) (sweepStartUnit_notReady hnot)
  · exact hp.exec_of_work (sweepStartUnit_unset hp.ready hset)
  · exact hp.exec_of_work (sweepStartUnit_idle hp.ready hset hi)
  · exact hp.exec_of_work (sweepStartUnit_sweeping hp.ready hset hw)

end Sys2Proof.Machine

namespace Sys2Proof.Machine

/-! ## Sweep units (R165, R168 to R171) -/

/-! ### One visit (R170) -/

section
variable {s w : State}

theorem State.dormant_iff (c : Card) : s.dormant c = true ↔ c.state = .active ∧ lotsValue c.lots = 0 ∧ c.openHolds = 0 ∧
    s.cfg.dormantDays ≠ 0 ∧ s.clock.isSet = true ∧ c.lastActivity + s.cfg.dormantDays < s.clock.day := by
  unfold State.dormant State.today
  cases s.clock.isSet <;> simp [and_assoc]

/-- What a visit leaves of a card: the card after expiry, or nothing when it is then dormant (R170). -/
def State.visitedCard (s : State) (c : Card) : Option Card :=
  if s.dormant (c.expire s.today) then none else some (c.expire s.today)

/-- The dormancy test reads the clock and the settings alone. -/
theorem State.visitedCard_congr (hclock : w.clock = s.clock) (hcfg : w.cfg = s.cfg) : w.visitedCard = s.visitedCard := by
  funext c
  unfold State.visitedCard State.dormant State.today
  rw [hclock, hcfg]

theorem State.visit_empty {slot : Nat} (h : s.cardAt slot = none) : s.visit slot = s := by
  rw [State.visit, h]

theorem State.visit_occupied {slot : Nat} {c : Card} (h : s.cardAt slot = some c) : s.visit slot =
    if s.dormant (c.expire s.today) then (s.expiryPosted c).retireCard slot c.number
    else (s.expiryPosted c).putCard slot (c.expire s.today) := by
  rw [State.visit, h]
  rfl

/-- A visit makes the expiry's postings, and changes the slots and the directory. -/
theorem State.visit_frame (s : State) (slot : Nat) : s.visit slot =
    (s.postAll (s.expiryOf [slot])).withTable (s.visit slot).cards.slots (s.visit slot).cards.directory := by
  cases hc : s.cardAt slot with
  | none =>
    have hpostings : s.expiryOf [slot] = [] := by simp [State.expiryOf, hc]
    rw [State.visit_empty hc, hpostings]
    rfl
  | some c =>
    have hpostings : s.expiryOf [slot] = lotsPostings s.today c.lots := by simp [State.expiryOf, hc]
    rw [State.visit_occupied hc, hpostings]
    split <;> rfl

theorem State.visit_cardAt (hw : tableWf s.cards.slots) (slot j : Nat) :
    (s.visit slot).cardAt j = if j = slot then (s.cardAt slot).bind s.visitedCard else s.cardAt j := by
  cases hc : s.cardAt slot with
  | none =>
    rw [State.visit_empty hc]
    split
    · next hj => rw [hj, hc]; rfl
    · rfl
  | some c =>
    rw [State.visit_occupied hc, Option.bind_some, State.visitedCard]
    split
    · rw [State.retireCard_cardAt (by rwa [State.postAll_slots]), State.postAll_cardAt]
    · rw [State.putCard_cardAt, State.postAll_cardAt]

/-- The number of a card that a visit retires leaves the directory (R18, R170). -/
theorem State.visit_directory (hw : tableWf s.cards.directory) (slot n : Nat) :
    tableFind (s.visit slot).cards.directory n =
      if ∃ c, s.cardAt slot = some c ∧ s.visitedCard c = none ∧ c.number = n then none
      else tableFind s.cards.directory n := by
  cases hc : s.cardAt slot with
  | none => simp [State.visit_empty hc]
  | some c =>
    rw [State.visit_occupied hc]
    by_cases hd : s.dormant (c.expire s.today) = true
    · by_cases hn : c.number = n
      · subst hn
        have herase := tableFind_erase_self _ c.number hw
        simpa [State.visitedCard, hd, State.retireCard] using herase
      · have herase := tableFind_erase_ne s.cards.directory (Ne.symm hn)
        simpa [State.visitedCard, hd, State.retireCard, hn] using herase
    · simp [State.visitedCard, hd, State.putCard]

end

/-! ### The visits of a unit (R169, R170) -/

/-- What visits of the slots leave: their expiry posted, each card as its visit leaves it, and the numbers of those retired gone
from the directory. -/
structure State.Visited (s : State) (slots : List Nat) (w : State) : Prop where
  formed : w.TablesFormed
  frame : w = (s.postAll (s.expiryOf slots)).withTable w.cards.slots w.cards.directory
  cardAt : ∀ j, w.cardAt j = if j ∈ slots then (s.cardAt j).bind s.visitedCard else s.cardAt j
  directory : ∀ n, tableFind w.cards.directory n =
    if ∃ j ∈ slots, ∃ c, s.cardAt j = some c ∧ s.visitedCard c = none ∧ c.number = n then none
    else tableFind s.cards.directory n

section
variable {s w : State} {slots : List Nat}

theorem State.Visited.clock (h : s.Visited slots w) : w.clock = s.clock := by
  rw [h.frame]
  exact s.postAll_clock _

theorem State.Visited.sweep (h : s.Visited slots w) : w.sweep = s.sweep := by
  rw [h.frame]
  exact s.postAll_sweep _

theorem State.Visited.store (h : s.Visited slots w) : w.store = s.store := by
  rw [h.frame]
  exact s.postAll_store _

theorem State.Visited.cfg (h : s.Visited slots w) : w.cfg = s.cfg := by
  rw [h.frame]
  exact s.postAll_cfg _

/-- A visit of one more slot, which none of those before was. -/
theorem State.Visited.visit (h : s.Visited slots w) {j : Nat} (hj : j ∉ slots) : s.Visited (slots ++ [j]) (w.visit j) := by
  have hat : w.cardAt j = s.cardAt j := (h.cardAt j).trans (if_neg hj)
  have hcard : w.visitedCard = s.visitedCard := State.visitedCard_congr h.clock h.cfg
  have hpostings : s.expiryOf (slots ++ [j]) = s.expiryOf slots ++ w.expiryOf [j] := by
    simp [State.expiryOf, hat, State.today, h.clock]
  refine ⟨(h.formed.kept.visit j).formed, ?_, fun i => ?_, fun n => ?_⟩
  · have hposted : w.postAll (w.expiryOf [j]) =
        (s.postAll (s.expiryOf (slots ++ [j]))).withTable w.cards.slots w.cards.directory := by
      rw [hpostings, State.postAll_append, ← State.postAll_withTable, ← h.frame]
    have hframe := w.visit_frame j
    rw [hposted] at hframe
    exact hframe
  · rw [State.visit_cardAt h.formed.slots, hat, hcard, h.cardAt]
    by_cases hi : i = j
    · subst hi
      simp
    · simp [hi]
  · rw [State.visit_directory h.formed.directory, hat, hcard, h.directory]
    by_cases hn : ∃ c, s.cardAt j = some c ∧ s.visitedCard c = none ∧ c.number = n
    · rw [if_pos hn, if_pos ⟨j, by simp, hn⟩]
    · rw [if_neg hn]
      refine if_congr ⟨fun ⟨i, hi, hi'⟩ => ⟨i, List.mem_append_left _ hi, hi'⟩, fun ⟨i, hi, hi'⟩ => ?_⟩ rfl rfl
      rcases List.mem_append.mp hi with hi | hi
      · exact ⟨i, hi, hi'⟩
      · exact absurd (List.mem_singleton.mp hi ▸ hi') hn

theorem State.visited_visits (h : s.TablesFormed) (hslots : slots.Nodup) : s.Visited slots (slots.foldl State.visit s) := by
  induction slots using List.reverseRecOn with
  | nil => exact ⟨h, rfl, fun _ => rfl, fun _ => by simp⟩
  | append_singleton slots j ih =>
    obtain ⟨hinit, -, hdisjoint⟩ := List.nodup_append.mp hslots
    rw [List.foldl_append]
    exact (ih hinit).visit fun hj => hdisjoint j hj j (by simp) rfl

end

/-! ### The slots of a unit (R169) -/

section
variable {s : State}

/-- In a rising list, the numbers taken are those up to the last one taken. -/
theorem mem_take_iff_le {l : List Nat} (h : l.Pairwise (· < ·)) {n last : Nat} (hlast : (l.take n).getLast? = some last)
    (j : Nat) : j ∈ l.take n ↔ j ∈ l ∧ j ≤ last := by
  obtain ⟨before, htake⟩ := List.getLast?_eq_some_iff.mp hlast
  rw [← List.take_append_drop n l] at h
  obtain ⟨hrise, -, hrest⟩ := List.pairwise_append.mp h
  have hmem : last ∈ l.take n := by simp [htake]
  refine ⟨fun hj => ⟨List.mem_of_mem_take hj, ?_⟩, fun ⟨hj, hle⟩ => ?_⟩
  · rw [htake] at hj hrise
    rcases List.mem_append.mp hj with hj | hj
    · exact Nat.le_of_lt ((List.pairwise_append.mp hrise).2.2 j hj last (by simp))
    · exact (List.mem_singleton.mp hj).le
  · rw [← List.take_append_drop n l] at hj
    exact (List.mem_append.mp hj).resolve_right fun hdrop => Nat.not_lt.mpr hle (hrest last hmem j hdrop)

/-- The occupied slots from the position on, in ascending order. -/
def State.slotsAhead (s : State) : List Nat := (s.cards.slots.filter (fun e => s.sweep.position ≤ e.1)).map (·.1)

theorem State.sweepVisits_eq (s : State) : s.sweepVisits = s.slotsAhead.take s.sweep.block := rfl

theorem State.slotsAhead_rise (h : s.TablesFormed) : s.slotsAhead.Pairwise (· < ·) :=
  List.pairwise_map.mpr (h.slots.filter _)

theorem State.sweepVisits_rise (h : s.TablesFormed) : s.sweepVisits.Pairwise (· < ·) :=
  (State.slotsAhead_rise h).sublist (List.take_sublist _ _)

theorem State.mem_slotsAhead (h : s.TablesFormed) (j : Nat) :
    j ∈ s.slotsAhead ↔ s.sweep.position ≤ j ∧ s.cardAt j ≠ none := by
  have hat : s.cardAt j ≠ none ↔ ∃ c, (j, c) ∈ s.cards.slots := by
    simp only [Option.ne_none_iff_exists', State.cardAt, tableFind_iff h.slots]
  rw [hat]
  simp [State.slotsAhead, and_comm]

/-- A full block stops after the last slot visited (R169). -/
theorem State.sweepStop_full (hblock : 1 ≤ s.sweep.block) (h : s.sweepVisits.length = s.sweep.block) :
    ∃ last, s.sweepVisits.getLast? = some last ∧ s.sweepStop = last + 1 := by
  have hne : s.sweepVisits ≠ [] := List.ne_nil_of_length_pos (by omega)
  refine ⟨s.sweepVisits.getLast hne, List.getLast?_eq_getLast_of_ne_nil hne, ?_⟩
  rw [State.sweepStop, if_neg (by omega), List.getLast?_eq_getLast_of_ne_nil hne]

/-- A unit that finds fewer slots than its block examines the table to its end (R169). -/
theorem State.sweepStop_short (h : s.sweepVisits.length < s.sweep.block) : s.sweepStop = 131072 := if_pos h

theorem State.sweepVisits_length (s : State) : s.sweepVisits.length ≤ s.sweep.block := List.length_take_le _ _

/-- A unit visits the occupied slots from its position to where it stops. -/
theorem State.mem_sweepVisits (h : s.TablesFormed) (hblock : 1 ≤ s.sweep.block) (j : Nat) :
    j ∈ s.sweepVisits ↔ s.sweep.position ≤ j ∧ j < s.sweepStop ∧ s.cardAt j ≠ none := by
  have hahead := State.mem_slotsAhead h j
  rcases s.sweepVisits_length.lt_or_eq with hshort | hfull
  · have hall : s.sweepVisits = s.slotsAhead := by
      rw [State.sweepVisits_eq] at hshort ⊢
      exact List.take_of_length_le (by rw [List.length_take] at hshort; omega)
    have hrange : s.cardAt j ≠ none → j < 131072 := fun hc => by
      obtain ⟨c, hc⟩ := Option.ne_none_iff_exists'.mp hc
      exact h.slotRange _ (mem_of_tableFind hc)
    rw [hall, hahead, State.sweepStop_short hshort]
    exact ⟨fun ⟨hp, hc⟩ => ⟨hp, hrange hc, hc⟩, fun ⟨hp, _, hc⟩ => ⟨hp, hc⟩⟩
  · obtain ⟨last, hlast, hstop⟩ := State.sweepStop_full hblock hfull
    rw [State.sweepVisits_eq, mem_take_iff_le (State.slotsAhead_rise h) hlast, hahead, hstop, Nat.lt_succ_iff]
    tauto

end

/-! ### The unit (R169, R171) -/

section
variable {s w : State} {slots : List Nat}

/-- The unit's visits done, the position moves, or the pass ends and SWEEP_DONE is delivered (R169, R171). -/
theorem State.Visited.sweepUnit_eq (h : s.Visited s.sweepVisits (s.sweepVisits.foldl State.visit s)) :
    let w := s.sweepVisits.foldl State.visit s
    s.sweepUnit = if s.sweepStop < 131072 then { w with sweep := { s.sweep with position := s.sweepStop } }
      else ({ w with sweep := if s.sweep.passPending then ⟨.sweeping, 0, false, s.cfg.sweepMode, s.cfg.sweepBlock⟩
        else { s.sweep with pass := .idle, position := 0 } } : State).deliver .sweepDone := by
  intro w
  have hsweep : w.sweep = s.sweep := h.sweep
  have hcfg : w.cfg = s.cfg := h.cfg
  show (if s.sweepEnds then w.endPass else { w with sweep := { w.sweep with position := s.sweepStop } }) = _
  have hends : s.sweepEnds = true ↔ ¬ s.sweepStop < 131072 := by simp [State.sweepEnds]
  by_cases hstop : s.sweepStop < 131072
  · rw [if_neg (mt hends.mp (not_not.mpr hstop)), if_pos hstop, hsweep]
  · rw [if_pos (hends.mpr hstop), if_neg hstop, State.endPass, State.beginPass, hsweep, hcfg]
    split <;> rfl

theorem State.Visited.sweepUnit_store (h : s.Visited s.sweepVisits (s.sweepVisits.foldl State.visit s)) :
    s.sweepUnit.store = s.store := by
  rw [h.sweepUnit_eq]
  split
  · exact h.store
  · rw [State.deliver_store]
    exact h.store

/-- The sweep keeps its grant when the mode is BURST, the pass goes on, it may claim again, and no park is under way (R168,
R183). -/
theorem State.sweepKeeps_iff (s t : State) : s.sweepKeeps t = true ↔
    s.sweep.mode = .burst ∧ s.sweepStop < 131072 ∧ t.sweepClaims = true ∧ t.store.parking = false := by
  simp [State.sweepKeeps, State.sweepEnds, and_assoc]

end

/-- Settles O54, by what each visit leaves and the slots that a unit visits. -/
theorem sweepUnitVisitsBlock : Obligations.SweepUnitVisitsBlock := by
  intro s h hh _ hblock
  have hrise := State.sweepVisits_rise h
  have hv := State.visited_visits h (hrise.imp Nat.ne_of_lt)
  refine ⟨s.sweepVisits.foldl State.visit s, s.sweepVisits, s.sweepStop, ?_⟩
  intro p u
  have hu : s.sweepUnit = u := hv.sweepUnit_eq
  have hvisited : ∀ {j c}, j ∈ s.sweepVisits → s.cardAt j = some c →
      (s.sweepVisits.foldl State.visit s).cardAt j = s.visitedCard c := fun hj hc => by
    rw [hv.cardAt, if_pos hj, hc]
    rfl
  refine ⟨?_, s.sweepVisits_length, hrise, State.mem_sweepVisits h hblock, fun hfull => ?_, State.sweepStop_short, hv.frame,
    fun j hj => (hv.cardAt j).trans (if_neg hj), fun j c hj hc => ?_, fun j c hj hc hnone => ?_, fun n hn => ?_⟩
  · have hparking : u.store.parking = s.store.parking := congrArg Store.parking (hu ▸ hv.sweepUnit_store)
    show execSweepUnit s = _
    rw [execSweepUnit, if_pos hh, hu]
    congr 2
    rw [Bool.eq_iff_iff, State.sweepKeeps_iff, decide_eq_true_iff, hparking]
  · obtain ⟨last, hlast, hstop⟩ := State.sweepStop_full hblock hfull
    rw [hstop]
    exact ⟨hlast, Nat.le_add_left 1 last⟩
  · rw [hvisited hj hc]
    exact if_congr (State.dormant_iff _) rfl rfl
  · rw [hvisited hj hc] at hnone
    exact (hv.directory _).trans (if_pos ⟨j, hj, c, hc, hnone, rfl⟩)
  · refine (hv.directory n).trans (if_neg ?_)
    rintro ⟨j, hj, c, hc, hnone, hnumber⟩
    exact hn j c hj hc ((hvisited hj hc).trans hnone) hnumber

end Sys2Proof.Machine

namespace Sys2Proof.Machine

/-! ## Frames answered without a grant (R175, R178, R182, R187) -/

/-- Every row that serves a request takes a frame that carries it and gives it to the request's work, also where the request's
kind has several rows. -/
theorem Request.exec_row_takes (r : Request) (s : State) :
    ∃ (takes : Frame → Bool) (unit : Request → State → Reply × State),
      exec r.row s = .next (s.serve takes (wellFormedOr unit)) ∧ (∀ u, unit r u = r.work u) ∧
      ∀ f : Frame, f.request = some r → takes f = true := by
  cases r
  case watchWrite | watchClear | watchList =>
    exact ⟨_, _, rfl, fun _ => rfl, fun _ hr => Frame.isOperation_watchSet hr rfl rfl _⟩
  case scheduleWrite | scheduleClear =>
    exact ⟨_, _, rfl, fun _ => rfl, fun _ hr => Frame.isOperation_scheduleStage hr rfl rfl _⟩
  all_goals exact ⟨_, _, rfl, fun _ => rfl, fun _ hr => Frame.isKind_of_request hr⟩

/-- Every request but STATUS, CONFIG_READ and FORMAT waits for READY (R175). -/
theorem Request.work_waits {r : Request} (hstatus : r ≠ .status) (hread : r ≠ .configRead) (hformat : r ≠ .format) :
    ∃ work, r.work = whenReady work := by
  cases r
  case status => exact absurd rfl hstatus
  case configRead => exact absurd rfl hread
  case format => exact absurd rfl hformat
  all_goals exact ⟨_, rfl⟩

theorem Request.work_notReady {r : Request} {s : State} (h : s.store.state ≠ .ready) (hstatus : r ≠ .status)
    (hread : r ≠ .configRead) (hformat : r ≠ .format) : r.work s = (refuse .notReady, s) := by
  obtain ⟨work, hw⟩ := Request.work_waits hstatus hread hformat
  rw [hw, whenReady_not work h]

theorem configReadUnit_mounting {s : State} (h : s.store.state = .mounting) : configReadUnit s = (refuse .notReady, s) := by
  rw [configReadUnit, h]

theorem formatUnit_mounting {s : State} (h : s.store.state = .mounting) : formatUnit s = (refuse .notReady, s) := by
  rw [formatUnit, h]

theorem formatUnit_ready {s : State} (h : s.store.state = .ready) : formatUnit s = (refuse .wrongState, s) := by
  rw [formatUnit, h]

/-- While the store is MOUNTING, STATUS alone is served (R175). -/
theorem Request.work_mounting {r : Request} {s : State} (h : s.store.state = .mounting) (hstatus : r ≠ .status) :
    r.work s = (refuse .notReady, s) := by
  by_cases hread : r = .configRead
  · rw [hread]; exact configReadUnit_mounting h
  by_cases hformat : r = .format
  · rw [hformat]; exact formatUnit_mounting h
  exact Request.work_notReady (h ▸ nofun) hstatus hread hformat

theorem Request.eq_format_of_kind {r : Request} (h : r.kind = .format) : r = .format := by
  cases r
  case format => rfl
  all_goals cases h

/-- A frame of unknown kind needs no grant (R178). -/
theorem State.frameNeedsGrant_unknown {s : State} {f : Frame} (hk : kindOf f.kind = none) : s.frameNeedsGrant f = false := by
  rw [State.frameNeedsGrant, hk]

/-- Nothing needs a grant while the store is MOUNTING (R175). -/
theorem State.frameNeedsGrant_mounting {s : State} {f : Frame} (h : s.store.state = .mounting) :
    s.frameNeedsGrant f = false := by
  unfold State.frameNeedsGrant
  rw [h]
  split <;> rfl

section
variable {s u : State} {f : Frame} {rest : List Frame} {r : Request} {reply : Reply}

/-- A request that needs no grant is served by its row with the answer and the state of its work, whatever its kind. -/
theorem State.Next.exec_row_of_work (h : s.Next f rest) (hr : f.request = some r) (hg : s.frameNeedsGrant f = false)
    (hw : r.work (s.taken rest) = (reply, u)) : exec r.row s = .next (u.completeTaken f reply) := by
  obtain ⟨takes, unit, he, hu, ht⟩ := r.exec_row_takes s
  rw [he, s.serve_next _ _ h (ht f hr) hg, wellFormedOr_some _ _ hr, hu, hw]

/-- A frame of unknown kind is served by the row of its own (R178, R187). -/
theorem State.Next.exec_unknownRequestKind (h : s.Next f rest) (hk : kindOf f.kind = none) :
    exec .unknownRequestKind s = .next ((s.taken rest).completeTaken f (refuse .badRequest)) := by
  show execUnknownRequestKind s = _
  rw [execUnknownRequestKind, s.serve_next _ _ h (by rw [hk]; rfl) (State.frameNeedsGrant_unknown hk)]

end

/-- Settles O15. -/
theorem unservedFramesAnswered : Obligations.UnservedFramesAnswered := by
  intro s f rest hn
  refine ⟨fun hk => ⟨hn.exec_unknownRequestKind hk, rfl⟩, fun r hr hm hstatus => ?_,
    fun r hr hu hstatus hread hformat => ?_, fun hr hready => ?_⟩
  · exact hn.exec_row_of_work hr (State.frameNeedsGrant_mounting hm)
      (Request.work_mounting (s := s.taken rest) hm hstatus)
  · have hkind : r.kind ≠ .format := fun hk => hformat (Request.eq_format_of_kind hk)
    have hnot : (s.taken rest).store.state ≠ .ready := by
      show s.store.state ≠ _
      rw [hu]
      nofun
    exact hn.exec_row_of_work hr (State.frameNeedsGrant_unformatted hu hr hkind)
      (Request.work_notReady hnot hstatus hread hformat)
  · exact hn.exec_row_of_work hr (State.frameNeedsGrant_ready hready hr) (formatUnit_ready (s := s.taken rest) hready)

end Sys2Proof.Machine

namespace Sys2Proof.Machine

/-! ## STATUS, STATUS_CLEAR and the attention line (R191 to R194) -/

/-- STATUS needs a grant in no store state (R175, R178). -/
theorem State.frameNeedsGrant_status {s : State} {f : Frame} (hr : f.request = some .status) :
    s.frameNeedsGrant f = false := by
  rw [State.frameNeedsGrant, Frame.kind_of_request hr]
  cases s.store.state <;> rfl

theorem statusClearUnit_ready {s : State} (c : Nat) (h : s.store.state = .ready) :
    statusClearUnit c s = (⟨.ok, field 2 (s.clearConditions (BitVec.ofNat 16 c)).conditions.toNat⟩,
      s.clearConditions (BitVec.ofNat 16 c)) := whenReady_ready _ h

/-- STATUS_CLEAR clears the latched conditions whose bits the carried number sets (R190, R194). -/
theorem State.clearConditions_latched (s : State) (c i : Nat) :
    (s.clearConditions (BitVec.ofNat 16 c)).link.latched.getLsbD i = (s.link.latched.getLsbD i && !c.testBit i) := by
  show (s.link.latched &&& ~~~BitVec.ofNat 16 c).getLsbD i = _
  rw [BitVec.getLsbD_and, BitVec.getLsbD_not, BitVec.getLsbD_ofNat]
  by_cases hi : i < 16
  · simp [hi]
  · simp [BitVec.getLsbD_of_ge _ i (Nat.le_of_not_lt hi)]

/-- The entry set is emptied when the carried number names WATCH_HIT (R194). -/
theorem State.clearConditions_watchHits (s : State) (c : Nat) :
    (s.clearConditions (BitVec.ofNat 16 c)).link.watchHits = if c.testBit 9 then 0#8 else s.link.watchHits := by
  have hbit : (BitVec.ofNat 16 c).getLsbD Condition.watchHit.bit = c.testBit 9 := by
    rw [BitVec.getLsbD_ofNat]
    rfl
  show (if (BitVec.ofNat 16 c).getLsbD Condition.watchHit.bit then 0#8 else s.link.watchHits) = _
  rw [hbit]

/-- The Request Engine may take a frame that needs no grant (R175, R183, R187). -/
theorem State.mayTake_iff (s : State) : s.mayTake = true ↔
    s.engine.current = none ∧ s.link.answers.length < 16 ∧ s.store.state ≠ .parked := by
  simp [State.mayTake, State.answerPlace, and_assoc]

/-- The level conditions are bits 0 and 1, and each follows its queue (R191). -/
theorem State.levelConditions_bit (s : State) (c : Condition) : s.levelConditions.getLsbD c.bit =
    (c == .answerReady && !s.link.answers.isEmpty || c == .payoutRecords && !s.payout.queue.isEmpty) := by
  unfold State.levelConditions
  cases s.link.answers.isEmpty <;> cases s.payout.queue.isEmpty <;> cases c <;> rfl

/-- The latched conditions are bits 2 to 12 (R191). -/
theorem Condition.latched_bit (c : Condition) :
    (0x1FFC#16).getLsbD c.bit = (c != .answerReady && c != .payoutRecords) := by
  cases c <;> rfl

/-- What stands: a level condition with its queue, any other as it is latched (R191). -/
theorem State.stands_eq (s : State) (c : Condition) : s.stands c =
    (s.link.latched.getLsbD c.bit && (c != .answerReady && c != .payoutRecords) ||
      (c == .answerReady && !s.link.answers.isEmpty || c == .payoutRecords && !s.payout.queue.isEmpty)) := by
  rw [State.stands, State.conditions, BitVec.getLsbD_or, BitVec.getLsbD_and, Condition.latched_bit, s.levelConditions_bit]

theorem State.stands_answerReady (s : State) : s.stands .answerReady = true ↔ s.link.answers ≠ [] := by
  simp [State.stands_eq]

theorem State.stands_payoutRecords (s : State) : s.stands .payoutRecords = true ↔ s.payout.queue ≠ [] := by
  simp [State.stands_eq]

theorem State.stands_latched (s : State) {c : Condition} (ha : c ≠ .answerReady) (hp : c ≠ .payoutRecords) :
    s.stands c = s.link.latched.getLsbD c.bit := by
  rw [State.stands_eq, bne_iff_ne.mpr ha, bne_iff_ne.mpr hp, beq_false_of_ne ha, beq_false_of_ne hp]
  simp

/-- Each of the bits 0 to 12 of a condition set is a condition's (R191). -/
theorem exists_condition_bit {i : Nat} (h : i < 13) : ∃ c : Condition, c.bit = i := by
  have hall : ∀ i < 13, ∃ c ∈ [Condition.answerReady, .payoutRecords, .intakeOverrun, .linkError, .cutTaken, .cutDeferred,
      .payoutDone, .sweepDone, .dayRoll, .watchHit, .clockFallback, .saturated, .storeReady], c.bit = i := by decide
  obtain ⟨c, -, hc⟩ := hall i h
  exact ⟨c, hc⟩

/-- No bit beyond the thirteen conditions' is ever set in what stands (R191). -/
theorem State.conditions_high (s : State) {i : Nat} (h : 13 ≤ i) : s.conditions.getLsbD i = false := by
  have high : ∀ n < 2 ^ 13, (BitVec.ofNat 16 n).getLsbD i = false := fun n hn => by
    rw [BitVec.getLsbD_ofNat, Nat.testBit_eq_false_of_lt (hn.trans_le (Nat.pow_le_pow_right (by decide) h)), Bool.and_false]
  have level : s.levelConditions.getLsbD i = false := by
    unfold State.levelConditions
    rw [BitVec.getLsbD_or, apply_ite (BitVec.getLsbD · i), apply_ite (BitVec.getLsbD · i)]
    simp [Condition.set, high, Condition.bit]
  rw [State.conditions, BitVec.getLsbD_or, BitVec.getLsbD_and, level, high 0x1FFC (by decide), Bool.and_false, Bool.false_or]

/-- A condition set is not empty when some bit of it is set. -/
theorem ne_zero_iff_getLsbD {w : Nat} (x : BitVec w) : x ≠ 0#w ↔ ∃ i, x.getLsbD i = true := by
  refine ⟨fun hx => ?_, fun ⟨i, hi⟩ hx => ?_⟩
  · by_contra hno
    exact hx (BitVec.eq_of_getLsbD_eq fun i _ => by simpa using fun hi => hno ⟨i, hi⟩)
  · simp [hx] at hi

/-- ATTN_N is low while a condition stands whose bit in the mask is clear (R192; log entry 8). -/
theorem State.attentionLow_iff (s : State) : s.attentionLow = true ↔
    ∃ c : Condition, s.stands c = true ∧ s.cfg.attentionMask.getLsbD c.bit = false := by
  rw [State.attentionLow, decide_eq_true_iff, ne_zero_iff_getLsbD]
  refine ⟨fun ⟨i, hi⟩ => ?_, fun ⟨c, hstands, hmask⟩ => ⟨c.bit, ?_⟩⟩
  · rw [BitVec.getLsbD_and, BitVec.getLsbD_not, Bool.and_eq_true_iff, Bool.and_eq_true_iff] at hi
    obtain ⟨hset, -, hclear⟩ := hi
    have hlt : i < 13 := not_le.mp fun hge => by rw [s.conditions_high hge] at hset; cases hset
    obtain ⟨c, rfl⟩ := exists_condition_bit hlt
    exact ⟨c, hset, by simpa using hclear⟩
  · have hlt : c.bit < 16 := by cases c <;> decide
    rw [BitVec.getLsbD_and, BitVec.getLsbD_not, hmask, decide_eq_true hlt]
    exact Bool.and_eq_true_iff.mpr ⟨hstands, rfl⟩

/-- Settles O55. -/
theorem statusReportsAndClears : Obligations.StatusReportsAndClears := by
  refine ⟨fun s f rest hn => ⟨fun hr => ?_, fun c hr hready _ => ?_⟩, fun s => ⟨s.mayTake_iff, s.stands_answerReady,
    s.stands_payoutRecords, fun _ ha hp => s.stands_latched ha hp, s.attentionLow_iff⟩⟩
  · exact hn.exec_of_work hr (State.frameNeedsGrant_status hr) rfl
  · exact ⟨s.clearConditions (BitVec.ofNat 16 c),
      hn.exec_of_work hr (State.frameNeedsGrant_ready hready hr) (statusClearUnit_ready (s := s.taken rest) c hready), rfl,
      s.clearConditions_latched c, s.clearConditions_watchHits c⟩

end Sys2Proof.Machine

namespace Sys2Proof.Machine

/-! ## The device reset (R173, R179, R180, R182, R193) -/

/-- A FORMAT is in progress in an UNFORMATTED store (R182). -/
theorem State.formatting_iff (s : State) : s.formatting = true ↔
    s.store.state = .unformatted ∧ ∃ f, s.engine.current = some f ∧ f.request = some .format := by
  unfold State.formatting
  cases s.engine.current <;> simp

/-- A start writes the store's state and its own progress; the stored header and the input's level stay (R180). -/
theorem Store.started_kept (t : Store) (reads : Bool) : (t.started reads).parking = false ∧
    (t.started reads).powerGood = t.powerGood ∧ (t.started reads).headerValid = t.headerValid := by
  unfold Store.started
  split
  · exact ⟨rfl, rfl, rfl⟩
  split
  · next h => exact ⟨rfl, rfl, (Bool.and_eq_true_iff.mp h).1.symm⟩
  · exact ⟨rfl, rfl, rfl⟩

/-- The store state in which the part starts (R173, R180). -/
theorem Store.started_state_eq (t : Store) (reads : Bool) : (t.started reads).state =
    if t.powerGood = false then .parked
    else if (t.started reads).headerValid = true ∧ reads = true then .mounting else .unformatted := by
  obtain ⟨_, _, valid, _, _, good⟩ := t
  cases good <;> cases valid <;> cases reads <;> rfl

/-- Settles O58: what the reset writes is read off it, and the store from its start. -/
theorem deviceResetClearsVolatile : Obligations.DeviceResetClearsVolatile := by
  intro s kind reads
  obtain ⟨hparking, hgood, hvalid⟩ := s.storeAtReset.started_kept reads
  refine ⟨s.deviceReset kind reads, rfl, rfl, rfl, rfl, rfl, by cases kind <;> rfl, rfl, rfl, rfl, rfl, rfl, rfl, rfl, rfl, rfl,
    rfl, rfl, rfl, rfl, rfl, rfl, rfl, rfl, hparking, hgood, hvalid, s.formatting_iff, s.storeAtReset.started_state_eq reads⟩

end Sys2Proof.Machine

namespace Sys2Proof.Machine

/-! ## The power-fail park (R173, R183) -/

section
variable {s : State}

/-- The store PARKED with no park under way before it: its state is all of its record that changes (R183). -/
theorem State.parked_eq (hpark : s.store.parking = false) :
    s.parked = { s with store := { s.store with state := .parked }, link := { s.link with intake := [] } } := by
  rw [State.parked, ← hpark]

theorem State.startPark_free (hstate : s.store.state ≠ .parked) (hpark : s.store.parking = false)
    (hfree : s.arbiter.holder = none) : s.startPark = s.parked := by
  rw [State.startPark, if_neg (by simp [hstate, hpark]), hfree]

theorem State.startPark_held (hstate : s.store.state ≠ .parked) (hpark : s.store.parking = false)
    (hheld : s.arbiter.holder ≠ none) : s.startPark = { s with store := { s.store with parking := true } } := by
  obtain ⟨c, hc⟩ := Option.ne_none_iff_exists'.mp hheld
  rw [State.startPark, if_neg (by simp [hstate, hpark]), hc]

theorem State.startPark_again (h : s.store.state = .parked ∨ s.store.parking = true) : s.startPark = s := if_pos h

/-- From the fall of POWER_GOOD on the store is granted to nobody (R176, R183). -/
theorem State.grantable_parking (h : s.store.parking = true ∨ s.store.state = .parked) (c : Claimant) :
    s.grantable c = false := by
  rcases h with h | h <;> simp [State.grantable, h]

theorem exec_powerGoodFall (s : State) : exec .powerGoodFall s = .next (s.setPowerGood false).startPark := rfl

theorem exec_park_free (hpark : s.store.parking = true) (hfree : s.arbiter.holder = none) : exec .park s = .next s.parked :=
  congrArg Host.Outcome.next (if_pos ⟨hpark, hfree⟩)

end

/-- Settles O60. -/
theorem powerFailParks : Obligations.PowerFailParks := by
  intro s
  refine ⟨fun hs hp hh => ?_, fun hs hp hh => ?_, fun h => ?_, fun hp hh => ?_, rfl, State.grantable_parking⟩
  · rw [exec_powerGoodFall, State.startPark_free (s := s.setPowerGood false) hs hp hh]
    exact congrArg Host.Outcome.next (State.parked_eq (s := s.setPowerGood false) hp)
  · rw [exec_powerGoodFall, State.startPark_held (s := s.setPowerGood false) hs hp hh]
    rfl
  · rw [exec_powerGoodFall, State.startPark_again (s := s.setPowerGood false) h]
    rfl
  · exact exec_park_free hp hh

end Sys2Proof.Machine

namespace Sys2Proof.Machine

/-! ## The step's queue, and the state right after power-on (R173, R179) -/

section
variable {s : State}

/-- A command waits: the step is its meaning on the queue's rest. -/
theorem step_of_pending {c : Instr} {rest : List Instr} (h : s.pending = c :: rest) : step s = exec c (s.setPending rest) := by
  rw [step, h]

theorem step_of_empty (h : s.pending = []) : step s = .next s.idle := by
  rw [step, h]

end

/-- Settles O1. -/
theorem stepRunsFrontCommand : Obligations.StepRunsFrontCommand :=
  ⟨fun _ _ _ h => step_of_pending h,
    fun _ h hm => (step_of_empty h).trans (congrArg Host.Outcome.next (if_neg hm)),
    fun _ h hm => (step_of_empty h).trans (congrArg Host.Outcome.next (if_pos hm))⟩

/-- No card, hold or queued entry exists right after power-on, so that what the capacities range over is empty. -/
theorem reset_withinCapacity : State.reset.WithinCapacity where
  intake := by decide
  answers := by decide
  answerFree := by decide
  payout := by decide
  recordFree := nofun
  position := by decide
  holds := by decide
  baskets := by decide
  basketNumbers := by decide
  members := nofun
  parts := nofun
  lots := nofun
  holdsOfCard := nofun

/-- The operator's record is the one entry of the tables right after power-on (log entry 1). -/
theorem reset_tablesFormed : State.reset.TablesFormed where
  slots := .nil
  slotRange := nofun
  directory := .nil
  watch := .nil
  watchRange := nofun
  merchants := by decide
  schedules := by decide
  scheduleRange := nofun
  closed := .nil

theorem reset_tablesInRange : State.reset.TablesInRange where
  cardNumbers := nofun
  directory := nofun
  lots := nofun
  merchants := by decide
  closed := nofun
  holds := nofun
  baskets := nofun

/-- Right after power-on index 0 is the operator and every other index is UNLISTED (log entry 1). -/
theorem reset_merchant (i : Nat) : State.reset.merchant i = if i = 0 then Merchant.operator else Merchant.unlisted := by
  by_cases h : i = 0
  · rw [if_pos h, h]; rfl
  · rw [if_neg h, State.merchant, tableGet, State.reset, tableFind, if_neg (Ne.symm h)]; rfl

theorem reset_position (i : Nat) : (State.reset.merchant i).position = Position.zero := by
  rw [reset_merchant]
  split <;> rfl

theorem reset_booksSound : State.reset.BooksSound where
  lots := nofun
  keys := nofun
  value := nofun
  numbers := nofun
  limit := by decide
  operator := rfl
  listed i h := h.elim (absurd rfl) (absurd (reset_position i))
  holdSerial := by decide
  basketSerial := by decide
  before _ := ⟨rfl, rfl, rfl⟩
  parked _ := rfl

/-- The store is UNFORMATTED right after power-on, so that the laws of a READY store do not yet speak of it. -/
theorem reset_lawsKept : State.reset.LawsKept := ⟨reset_booksSound, nofun⟩

theorem reset_clockInRange : State.reset.ClockInRange := ⟨by decide, by decide, by decide, nofun⟩

theorem reset_runMatched : State.reset.RunMatched where
  paying := nofun
  before _ := rfl
  walking h := absurd rfl h
  idle _ := ⟨rfl, rfl⟩
  last := nofun
  draining := nofun
  net := rfl

/-- Settles O2. -/
theorem resetMeetsInvariants : Obligations.ResetMeetsInvariants :=
  ⟨reset_withinCapacity, reset_tablesFormed, reset_tablesInRange, nofun, reset_lawsKept, reset_clockInRange,
    reset_runMatched⟩

end Sys2Proof.Machine

namespace Sys2Proof.Machine

/-! ## The fields of a request and its frame (R26, R190) -/

/-- A field's number can be carried at the field's width. -/
def FieldFits (w : Nat) (v : Option Nat) : Prop := ∀ n, v = some n → n < 256 ^ w

theorem readFields_absent (w : Nat) (ws : List Nat) (rest : List Byte) :
    readFields (w :: ws) (fieldBytes w none ++ rest) = (readFields ws rest).map (none :: ·) := rfl

/-- A present field is read back, and the rest of the body follows it. -/
theorem readFields_present {w n : Nat} (h : n < 256 ^ w) (ws : List Nat) (rest : List Byte) :
    readFields (w :: ws) (fieldBytes w (some n) ++ rest) = (readFields ws rest).map (some n :: ·) := by
  have hlen := bytesOf_length w n
  rw [fieldBytes, List.cons_append, readFields, if_neg (by decide), if_pos rfl, if_neg (by simp),
    List.take_left' hlen, List.drop_left' hlen, numberOf_bytesOf w n h]

/-- Fields that fit their widths are read back from their bytes. -/
theorem readFields_writeFields {ws : List Nat} {vs : List (Option Nat)} (h : List.Forall₂ FieldFits ws vs) :
    readFields ws (writeFields ws vs) = some vs := by
  induction h with
  | nil => rfl
  | @cons w v ws vs hv _ ih =>
    rw [writeFields]
    cases v with
    | none => rw [readFields_absent, ih, Option.map_some]
    | some n => rw [readFields_present (hv n rfl), ih, Option.map_some]

/-- A request carries one field for each of its kind's widths. -/
theorem Request.length_widths (r : Request) : r.kind.widths.length = r.fields.length := by
  cases r with
  | issue _ _ _ promo => cases promo <;> rfl
  | load _ _ _ promo => cases promo <;> rfl
  | routeSet pair => cases pair <;> rfl
  | _ => rfl

/-- The numbers of a request that a frame can carry fit their widths. -/
theorem Request.fields_fit {r : Request} (h : r.fits = true) : List.Forall₂ FieldFits r.kind.widths r.fields := by
  refine List.forall₂_iff_zip.mpr ⟨r.length_widths, fun hmem n hn => ?_⟩
  subst hn
  obtain ⟨hall, -⟩ := Bool.and_eq_true_iff.mp h
  exact of_decide_eq_true (List.all_eq_true.mp hall _ hmem)

/-- An AUTHORIZE that a frame can carry has not both minutes and a basket number (R52). -/
theorem Request.fits_authorize {n m t a p : Nat} {minutes basket : Option Nat}
    (h : (Request.authorize n m t a p minutes basket).fits = true) : ¬ (minutes.isSome && basket.isSome) = true := by
  obtain ⟨-, hone⟩ := Bool.and_eq_true_iff.mp h
  cases minutes with
  | none => exact Bool.false_ne_true
  | some _ =>
    cases basket with
    | none => exact Bool.false_ne_true
    | some _ => cases hone

/-- The fields that a request carries have the form their kind requires, and make that request (R26). -/
theorem requestOf_fields {r : Request} (h : r.fits = true) : requestOf r.kind r.fields = some r := by
  cases r with
  | issue _ _ _ promo => cases promo <;> rfl
  | load _ _ _ promo => cases promo <;> rfl
  | authorize => exact if_neg (Request.fits_authorize h)
  | routeSet pair => cases pair <;> rfl
  | _ => rfl

/-- A request is read back from the body a host writes for it (R190). -/
theorem readRequest_writeRequest {r : Request} (h : r.fits = true) : readRequest r.kind (writeRequest r) = some r := by
  rw [readRequest, writeRequest, readFields_writeFields (Request.fields_fit h), Option.bind_some, requestOf_fields h]

/-- A request is read back from its frame, whatever the tag (R190). -/
theorem Request.frame_request {r : Request} (tag : Tag) (h : r.fits = true) : (r.frame tag).request = some r := by
  show (kindOf r.kind.value).bind (fun k => readRequest k (writeRequest r)) = some r
  rw [kindOf_value, Option.bind_some, readRequest_writeRequest h]

/-! ## The bytes of a PUT (R185, R190) -/

/-- A tag is read back from its two bytes. -/
theorem ofNat_numberOf_tag (tag : Tag) : BitVec.ofNat 16 (numberOf (bytesOf 2 tag.toNat)) = tag := by
  rw [numberOf_bytesOf 2 _ tag.isLt, BitVec.ofNat_toNat, BitVec.setWidth_eq]

/-- Bytes whose length field is in range and counts the bytes after it are a frame (R185). -/
theorem frameOf_sized {l0 l1 kind t0 t1 : Byte} {body : List Byte} (hlen : numberOf [l0, l1] = 3 + body.length)
    (h : body.length ≤ 250) :
    frameOf (l0 :: l1 :: kind :: t0 :: t1 :: body) = some ⟨kind, BitVec.ofNat 16 (numberOf [t0, t1]), body⟩ :=
  if_pos (by simp [hlen, Config.frameLengthMin, Config.frameLengthMax]; omega)

/-- What a host clocks for a whole frame is taken in as that frame (R185, R190). -/
theorem frameOf_bytes {f : Frame} (h : f.body.length ≤ 250) : frameOf f.bytes = some f := by
  have hlen : numberOf (bytesOf 2 (3 + f.body.length)) = 3 + f.body.length := numberOf_bytesOf 2 _ (by omega)
  calc frameOf f.bytes
      = some ⟨f.kind, BitVec.ofNat 16 (numberOf (bytesOf 2 f.tag.toNat)), f.body⟩ := frameOf_sized hlen h
    _ = some f := by rw [ofNat_numberOf_tag]

/-- Bytes that make a frame carry a length field in range that counts the bytes after it (R185). -/
theorem frameOf_length {bytes : List Byte} {f : Frame} (h : frameOf bytes = some f) :
    3 ≤ numberOf (bytes.take 2) ∧ numberOf (bytes.take 2) ≤ 253 ∧ bytes.length = 2 + numberOf (bytes.take 2) := by
  unfold frameOf at h
  split at h
  · next l0 l1 kind t0 t1 body =>
    dsimp only at h
    split at h
    · next hsize =>
      simp only [Bool.and_eq_true, decide_eq_true_eq] at hsize
      obtain ⟨⟨hmin, hmax⟩, hbody⟩ := hsize
      refine ⟨hmin, hmax, ?_⟩
      show body.length + 5 = 2 + numberOf [l0, l1]
      omega
    · cases h
  · cases h

/-- A length field out of range, or one that does not count the bytes after it, makes no frame (R185). -/
theorem frameOf_broken {bytes : List Byte} (h : bytes.length < 2 ∨ numberOf (bytes.take 2) < 3 ∨
    253 < numberOf (bytes.take 2) ∨ bytes.length ≠ 2 + numberOf (bytes.take 2)) : frameOf bytes = none := by
  refine Option.eq_none_iff_forall_ne_some.mpr fun f hf => ?_
  obtain ⟨hmin, hmax, hlen⟩ := frameOf_length hf
  omega

/-- Settles O9. -/
theorem framesRoundTrip : Obligations.FramesRoundTrip :=
  ⟨fun _ tag h => Request.frame_request tag h, fun _ h => frameOf_bytes h⟩

end Sys2Proof.Machine

namespace Sys2Proof.Machine

/-! ## PUT (R185, R186) -/

section
variable {s : State} {f : Frame} {bytes : List Byte}

theorem State.enqueue_place (h : s.link.intake.length < 16) : s.enqueue f =
    ({ s with link := { s.link with intake := s.link.intake ++ [f] } } : State).arbitrate := if_pos h

theorem State.enqueue_full (h : 16 ≤ s.link.intake.length) : s.enqueue f = s.raise .intakeOverrun :=
  if_neg (Nat.not_lt.mpr h)

theorem State.put_parked (h : s.store.state = .parked) : s.put bytes = s := if_pos h

theorem State.put_frame (h : s.store.state ≠ .parked) (hf : frameOf bytes = some f) : s.put bytes = s.enqueue f := by
  rw [State.put, if_neg h, hf]

theorem State.put_broken (h : s.store.state ≠ .parked) (hf : frameOf bytes = none) : s.put bytes = s.raise .linkError := by
  rw [State.put, if_neg h, hf]

theorem exec_put : exec (.put bytes) s = .next (s.put bytes) := rfl

end

/-! ## Transactions (R185) -/

/-- A code other than those of PUT, TAKE and LINK_RESET is unknown. -/
theorem codeKnown_eq_false {code : Byte} (hp : code ≠ 1#8) (ht : code ≠ 2#8) (hr : code ≠ 3#8) : codeKnown code = false := by
  simp [codeKnown, codePut, codeTake, codeLinkReset, hp, ht, hr]

theorem transactionOf_unknown {code : Byte} (rest : List Byte) (hp : code ≠ 1#8) (ht : code ≠ 2#8) (hr : code ≠ 3#8) :
    transactionOf (code :: rest) = some (.transactionCodeUnknown code rest) :=
  congrArg some ((if_neg hp).trans ((if_neg ht).trans (if_neg hr)))

/-- A transaction of unknown code raises LINK_ERROR. -/
theorem exec_transactionCodeUnknown {code : Byte} (h : codeKnown code = false) (rest : List Byte) (s : State) :
    exec (.transactionCodeUnknown code rest) s = .next (s.raise .linkError) :=
  congrArg Host.Outcome.next (if_neg (by simp [h]))

/-- A transaction without a byte leaves the queue of commands as it is. -/
theorem State.transact_nil (s : State) : s.transact [] = s := by
  rw [s.transact_queueOnly, State.transact_pending]
  simp [transactionOf]

/-- A transaction that is a command puts it at the queue's tail. -/
theorem State.transact_of_command {bytes : List Byte} {c : Instr} (s : State) (h : transactionOf bytes = some c) :
    s.transact bytes = { s with pending := s.pending ++ [c] } := by
  rw [State.transact, h, Option.toList_some]

/-- Settles O10. -/
theorem putQueuesOrDiscards : Obligations.PutQueuesOrDiscards := by
  refine ⟨fun s f hf hs hi => ?_, fun s f hf hs hi => ?_, fun s bytes hs hb => ?_, fun s bytes hs => ?_,
    fun s code rest hp ht hr => ?_, fun s rest => ⟨s.transact_of_command rfl, s.transact_of_command rfl,
      s.transact_of_command rfl, fun code hp ht hr => ?_, s.transact_nil⟩⟩
  · rw [exec_put, State.put_frame hs (frameOf_bytes hf), State.enqueue_place hi]
  · rw [exec_put, State.put_frame hs (frameOf_bytes hf), State.enqueue_full hi]
    rfl
  · rw [exec_put, State.put_broken hs (frameOf_broken hb)]
    rfl
  · rw [exec_put, State.put_parked hs]
  · rw [exec_transactionCodeUnknown (codeKnown_eq_false hp ht hr)]
    rfl
  · exact s.transact_of_command (transactionOf_unknown rest hp ht hr)

end Sys2Proof.Machine

namespace Sys2Proof.Machine

/-! ## TAKE (R188) -/

/-- Past the frame's end the part drives zeros. -/
theorem sdoBytes_whole {n : Nat} {a : List Byte} (h : a.length ≤ n) :
    sdoBytes n a = a ++ List.replicate (n - a.length) 0#8 := by
  rw [sdoBytes, List.take_append, List.take_of_length_le h, List.take_replicate, Nat.min_eq_left (Nat.sub_le _ _)]

theorem sdoBytes_cut {n : Nat} {a : List Byte} (h : n < a.length) : sdoBytes n a = a.take n := by
  rw [sdoBytes, List.take_append_of_le_length h.le]

/-- The EMPTY frame reads as zeros. -/
theorem sdoBytes_empty (n : Nat) : sdoBytes n [] = List.replicate n 0#8 := sdoBytes_whole n.zero_le

section
variable {s : State} {n : Nat} {a : List Byte} {rest : List (List Byte)}

theorem State.takenAnswer_oldest (hs : s.store.state ≠ .parked) (ha : s.link.answers = a :: rest) :
    s.takenAnswer = some a := by
  rw [State.takenAnswer, if_neg hs, ha, List.head?_cons]

theorem State.takenAnswer_none (h : s.store.state = .parked ∨ s.link.answers = []) : s.takenAnswer = none := by
  rw [State.takenAnswer]
  split
  · rfl
  · next hs => rw [h.resolve_left hs, List.head?_nil]

/-- Every byte of the oldest answer is clocked: the answer leaves the queue. -/
theorem State.take_whole (hs : s.store.state ≠ .parked) (ha : s.link.answers = a :: rest) (hn : a.length ≤ n) :
    s.take n = ({ s with link := { s.link with
      answers := rest, sdo := a ++ List.replicate (n - a.length) 0#8 } } : State).arbitrate := by
  simp only [State.take, State.takenAnswer_oldest hs ha, if_neg (Nat.not_lt.mpr hn), sdoBytes_whole hn, ha, List.tail_cons]

/-- A TAKE cut short leaves the answer and raises LINK_ERROR. -/
theorem State.take_cut (hs : s.store.state ≠ .parked) (ha : s.link.answers = a :: rest) (hn : n < a.length) :
    s.take n = ({ s with link := { s.link with sdo := a.take n } } : State).raise .linkError := by
  simp only [State.take, State.takenAnswer_oldest hs ha, if_pos hn, sdoBytes_cut hn]

theorem State.take_empty (h : s.store.state = .parked ∨ s.link.answers = []) :
    s.take n = { s with link := { s.link with sdo := List.replicate n 0#8 } } := by
  simp only [State.take, State.takenAnswer_none h, sdoBytes_empty]

theorem exec_take : exec (.take n) s = .next (s.take n) := rfl

end

/-- Settles O11. -/
theorem takeReadsOldestAnswer : Obligations.TakeReadsOldestAnswer := by
  refine fun s n => ⟨fun a rest hs ha hn => ?_, fun a rest hs ha hn => ?_, fun h => ?_⟩
  · rw [exec_take, State.take_whole hs ha hn]
  · rw [exec_take, State.take_cut hs ha hn]
    rfl
  · rw [exec_take, State.take_empty h]

end Sys2Proof.Machine

namespace Sys2Proof.Machine

/-! ## LINK_RESET (R189) -/

section
variable {s : State}

theorem exec_linkReset (ignored : List Byte) : exec (.linkReset ignored) s = .next s.resetLink := rfl

/-- LINK_RESET clears the latched conditions INTAKE_OVERRUN and LINK_ERROR and no other. -/
theorem State.resetLink_latched (c : Condition) : s.resetLink.link.latched.getLsbD c.bit =
    (s.link.latched.getLsbD c.bit && (c != .intakeOverrun && c != .linkError)) := by
  have clears : (~~~linkResetClears).getLsbD c.bit = (c != .intakeOverrun && c != .linkError) := by cases c <;> rfl
  rw [← clears]
  exact BitVec.getLsbD_and ..

theorem State.resetLink_answerReady : s.resetLink.stands .answerReady = false :=
  Bool.eq_false_iff.mpr fun h => s.resetLink.stands_answerReady.mp h rfl

theorem State.resetLink_intakeOverrun : s.resetLink.stands .intakeOverrun = false := by
  rw [State.stands_latched (c := .intakeOverrun) _ nofun nofun, State.resetLink_latched, bne_self_eq_false, Bool.false_and, Bool.and_false]

theorem State.resetLink_linkError : s.resetLink.stands .linkError = false := by
  rw [State.stands_latched (c := .linkError) _ nofun nofun, State.resetLink_latched, bne_self_eq_false, Bool.and_false, Bool.and_false]

/-- Every condition but ANSWER_READY, INTAKE_OVERRUN and LINK_ERROR stands after LINK_RESET as it stood before. -/
theorem State.resetLink_stands {c : Condition} (ha : c ≠ .answerReady) (hi : c ≠ .intakeOverrun) (hl : c ≠ .linkError) :
    s.resetLink.stands c = s.stands c := by
  by_cases hp : c = .payoutRecords
  · rw [hp]
    exact Bool.eq_iff_iff.mpr (s.resetLink.stands_payoutRecords.trans s.stands_payoutRecords.symm)
  · rw [State.stands_latched _ ha hp, State.stands_latched _ ha hp, State.resetLink_latched, bne_iff_ne.mpr hi,
      bne_iff_ne.mpr hl, Bool.and_self, Bool.and_true]

/-- A request in progress stays in progress. -/
theorem State.resetLink_inProgress (f : Frame) (r : Request) : s.resetLink.InProgress f r ↔ s.InProgress f r :=
  ⟨fun ⟨hc, hr, hh, hs⟩ => ⟨hc, hr, hh, hs⟩, fun ⟨hc, hr, hh, hs⟩ => ⟨hc, hr, hh, hs⟩⟩

/-- A request whose answer LINK_RESET asked to discard completes unanswered (R187, R189). -/
theorem State.completeRequest_discard (h : s.engine.discard = true) (f : Frame) (r : Reply) :
    (s.completeRequest f r).link.answers = s.link.answers := by
  rw [State.completeRequest_eq, State.arbitrate_answers]
  exact if_pos h

end

/-- Settles O12. -/
theorem linkResetEmptiesQueues : Obligations.LinkResetEmptiesQueues := by
  intro s ignored
  refine ⟨s.resetLink, exec_linkReset ignored, rfl, State.resetLink_answerReady, State.resetLink_intakeOverrun,
    State.resetLink_linkError, fun _ => State.resetLink_stands, State.resetLink_inProgress, fun u f a hc hu => ?_⟩
  have hdiscard : u.engine.discard = s.engine.current.isSome := congrArg Engine.discard hu
  exact State.completeRequest_discard (hdiscard.trans (by rw [hc]; rfl)) f a

end Sys2Proof.Machine
